-- ==== Sys2Proof/Word.lean ====
section
/-! DEFINITION. The plain value types of the BW-48T, as spec/00_scope.md (Terms) and chapter 1 give them. -/

namespace Sys2Proof

/-- One byte of an order, a reply or a frame. -/
abbrev Byte := BitVec 8

/-- One bit time of the station bus line as sampled: `true` is recessive (a 1 bit), `false` is dominant (a 0 bit),
Table 7-1. -/
abbrev Bit := Bool

/-- A 4-bit line code, 0..15 (Table 1-2). -/
abbrev Code := Fin 16

/-- A channel slot of the signalling highway: slot = 16 × span + channel (section 1.1). -/
abbrev Slot := Fin 48

/-- A channel of a span, 0..15. -/
abbrev Channel := Fin 16

/-- A span of the part, 0..2. -/
abbrev SpanIx := Fin 3

/-- A station number, 0..7. -/
abbrev Station := Fin 8

/-- A dialled digit, 0..9. -/
abbrev Digit := Fin 10

/-- A request's class, 0..3; 0 is the highest. -/
abbrev CallClass := Fin 4

/-- A caller's category. The manual's category k, 1..4, is the index k − 1 (as the OFFER payload sends it,
Table 12-6); `categoryNumber` gives k. -/
abbrev Category := Fin 4

/-- The manual's number 1..4 of a category. -/
def categoryNumber (k : Category) : Nat := k.val + 1

/-- The name of an offer at its origin, 0..255. -/
abbrev Tag := BitVec 8

/-- The 16-bit number by which the card processor names a request. -/
abbrev Reference := BitVec 16

/-- A value of the 32-bit tick counter (R12). -/
abbrev Stamp := BitVec 32

/-- A set of stations, bit s for station s (Table 12-6). -/
abbrev StationSet := BitVec 8

/-- A set of channels, bit c for channel c (Table 12-1). -/
abbrev ChannelSet := BitVec 16

/-- A hunt slot number, 0..15. -/
abbrev HuntIx := Fin 16

/-- The times of a completed multiframe in clock periods (log entry 3). -/
structure MultiframeTimes where
  /-- From the last highway command to the multiframe's end. -/
  elapsed : Nat
  /-- From its marker to its end (R1, R3). -/
  lead : Nat
deriving DecidableEq, Repr

end Sys2Proof
end

