-- ==== Sys2Proof/Config.lean ====
section
/-! DEFINITION. The fixed numbers of the part, each from the rule named beside it. The spec leaves no result of a
command undefined, so there is no free value here (NOTES.md, Scope). -/

namespace Sys2Proof.Config

/-- The clock input runs at 16.384 MHz, so 2 ms is 32 768 periods (R3). -/
def multiframePeriods : Nat := 32768

/-- 125 µs of the clock input: the tolerance of the spacing test (R3). -/
def spacingTolerance : Nat := 2048

/-- 6 ms of the clock input: the silence that makes the highway LOST (R3). -/
def silenceLimit : Nat := 98304

/-- Good-run count at which the highway becomes PRESENT (R3). -/
def goodRunLimit : Nat := 8

/-- Consecutive invalid multiframes that fail a span (R148). -/
def failureRun : Nat := 50

/-- Consecutive valid multiframes that restore a span (R148). -/
def restorationRun : Nat := 500

/-- Digits a send queue or a receive buffer holds at most (R58, R72). -/
def maxDigits : Nat := 24

/-- Requests the hunt queue holds at most (R101). -/
def huntQueueLimit : Nat := 8

/-- Entries the offer table holds at most (R130). -/
def offerTableLimit : Nat := 8

/-- Directed frames the send queue holds at most (R123). -/
def sendQueueLimit : Nat := 16

/-- Attempts of a directed frame (R122). -/
def attemptLimit : Nat := 3

/-- Recessive bit times that make the bus idle (R115). -/
def idleBits : Nat := 11

/-- Dominant bit times that make the line stuck (R117). -/
def stuckBits : Nat := 24

/-- Consecutive dominant bits after which a stuff bit follows (R114). -/
def stuffRun : Nat := 5

/-- Payload bytes of a frame at most (R118). -/
def maxPayload : Nat := 20

/-- Age at which a neighbour is absent (R129). -/
def maxAge : Nat := 3

/-- Value at which the frame-check error counter stays (R124). -/
def checkErrorLimit : Nat := 255

/-- Length of the report queue at which divertible reports are diverted (R169). -/
def divertAt : Nat := 40

/-- Length of the report queue at or below which a RESYNC is posted (R171). -/
def resyncAt : Nat := 32

/-- The fill value of the data-out line (R181). -/
def fill : Byte := 255

end Sys2Proof.Config
end

