-- ==== Sys2Proof/Syntax.lean ====
section
/-! DEFINITION. The commands of the BW-48T: one constructor per row of spec/opcode_table.json, in the table's order,
each docstring the row's rule. Operands are what the rule says the event brings from outside the block; what one block hands
to another is held in the State (log entry 1). -/

namespace Sys2Proof

/-- The commands of the part. Orders carry the field bytes of their transaction (R160): the length byte is their
number, so an order of the wrong length is a command like any other and is refused as R162 says. -/
inductive Instr where
  /-- RESET_INPUT_ASSERTED (R174). -/
  | resetInputAsserted
  /-- RESET_RELEASE (R174). -/
  | resetRelease (straps : Station)
  /-- COMPLETED_MULTIFRAME (R1). -/
  | completedMultiframe (times : MultiframeTimes) (codes : Vector Code 48) (valid : Vector Bool 3)
  /-- MULTIFRAME_NOT_COMPLETED (R3). -/
  | multiframeNotCompleted (elapsed : Nat)
  /-- HIGHWAY_LOST (R3). -/
  | highwayLost
  /-- SUBSTITUTE_MULTIFRAME (R4). -/
  | substituteMultiframe (elapsed : Nat)
  /-- SAMPLE (R17). -/
  | sample (slot : Slot)
  /-- SPAN_VALID_BIT (R148). -/
  | spanValidBit (span : SpanIx)
  /-- SPAN_FAILURE_ACTION (R151). -/
  | spanFailureAction (slot : Slot)
  /-- RESTORATION_ACTION (R155). -/
  | restorationAction (slot : Slot)
  /-- CALL_LOSS_ACTION (R154). -/
  | callLossAction (slot : Slot)
  /-- TICK_BOUNDARY (R9). -/
  | tickBoundary
  /-- ACK_EXPIRY (R33). -/
  | ackExpiry (slot : Slot)
  /-- COMPEL_EXPIRY_OUTGOING (R65). -/
  | compelExpiryOutgoing (slot : Slot)
  /-- COMPEL_EXPIRY_INCOMING (R81). -/
  | compelExpiryIncoming (slot : Slot)
  /-- DIGIT_TIMEOUT (R69). -/
  | digitTimeout (slot : Slot)
  /-- RESPONSE_TIMEOUT (R79). -/
  | responseTimeout (slot : Slot)
  /-- NO_ANSWER (R45). -/
  | noAnswer (slot : Slot)
  /-- FORCED_RELEASE (R45). -/
  | forcedRelease (slot : Slot)
  /-- RELEASE_EXPIRY_RELEASING (R49). -/
  | releaseExpiryReleasing (slot : Slot)
  /-- RELEASE_EXPIRY_RESETTING (R56). -/
  | releaseExpiryResetting (slot : Slot)
  /-- NO_CLEAR_FORWARD (R82). -/
  | noClearForward (slot : Slot)
  /-- GUARD_EXPIRY (R51). -/
  | guardExpiry (slot : Slot)
  /-- RESTART_EXPIRY (R179). -/
  | restartExpiry (slot : Slot)
  /-- HOLD_TIME_EXPIRY (R154). -/
  | holdTimeExpiry (span : SpanIx)
  /-- OFFER_TIME_EXPIRY (R137). -/
  | offerTimeExpiry (tag : Tag)
  /-- ANNOUNCE_EXPIRY (R127). -/
  | announceExpiry
  /-- SEIZE_COMMAND (R31). -/
  | seizeCommand
  /-- SEIZE_COMMAND_OUTCOME (R106). -/
  | seizeCommandOutcome
  /-- REQUEST_RETURN (R107). -/
  | requestReturn (slot : Slot)
  /-- DISPATCH (R102). -/
  | dispatch
  /-- BUS_FRAME_RECEIVED (R125). -/
  | busFrameReceived (line : List Bit)
  /-- OFFER_RECEIVED (R138). -/
  | offerReceived
  /-- GRANT_RECEIVED (R141). -/
  | grantReceived
  /-- EXHAUSTED_RECEIVED (R141). -/
  | exhaustedReceived
  /-- WITHDRAW_RECEIVED (R142). -/
  | withdrawReceived
  /-- FRAME_TRANSMIT (R115). -/
  | frameTransmit (line : List Bit) (readBack : List Bit)
  /-- ACKNOWLEDGE_SLOT (R122). -/
  | acknowledgeSlot (level : Bit)
  /-- ORIGIN_OFFER_OUTCOME (R135). -/
  | originOfferOutcome
  /-- FORWARDED_OFFER_OUTCOME (R139). -/
  | forwardedOfferOutcome
  /-- GRANT_OUTCOME (R140). -/
  | grantOutcome
  /-- BUS_STUCK (R117). -/
  | busStuck (line : List Bit)
  /-- BUS_RECOVERED (R117). -/
  | busRecovered (line : List Bit)
  /-- ORDER_DISCARDED (R160). -/
  | orderDiscarded (bytes : List Byte)
  /-- UNKNOWN_ORDER (R162). -/
  | unknownOrder (kind : Byte) (fields : List Byte)
  /-- SET_PROFILE (R175). -/
  | setProfile (fields : List Byte)
  /-- SET_STATION (R175). -/
  | setStation (fields : List Byte)
  /-- SET_SPAN (R175). -/
  | setSpan (fields : List Byte)
  /-- GO (R177). -/
  | go (fields : List Byte)
  /-- READ_CONFIG (R166). -/
  | readConfig (fields : List Byte)
  /-- READ_STATUS (R166). -/
  | readStatus (fields : List Byte)
  /-- READ_VIEW (R166). -/
  | readView (fields : List Byte)
  /-- FETCH_REPORT (R172). -/
  | fetchReport (fields : List Byte)
  /-- CLEAR_ERRORS (R167). -/
  | clearErrors (fields : List Byte)
  /-- RESTART (R180). -/
  | restart (fields : List Byte)
  /-- READ_CIRCUIT (R165). -/
  | readCircuit (fields : List Byte)
  /-- HUNT (R99). -/
  | hunt (fields : List Byte)
  /-- CANCEL (R110). -/
  | cancel (fields : List Byte)
  /-- QUIESCE_SPAN (R156). -/
  | quiesceSpan (fields : List Byte)
  /-- RESUME_SPAN (R158). -/
  | resumeSpan (fields : List Byte)
  /-- ADD_DIGITS (R67). -/
  | addDigits (fields : List Byte)
  /-- RESPOND (R77). -/
  | respond (fields : List Byte)
  /-- ANSWER (R37). -/
  | answer (fields : List Byte)
  /-- CLEAR_BACK (R39). -/
  | clearBack (fields : List Byte)
  /-- CLEAR_FORWARD (R47). -/
  | clearForward (fields : List Byte)
  /-- BLOCK (R90). -/
  | block (fields : List Byte)
  /-- UNBLOCK (R91). -/
  | unblock (fields : List Byte)
  /-- RESET_CIRCUIT (R54). -/
  | resetCircuit (fields : List Byte)
deriving DecidableEq, Repr

end Sys2Proof
end

