-- ==== Sys2Proof/Decode.lean ====
section
/-! DEFINITION. The decoder of the table's words. No row of spec/opcode_table.json gives bits ("fields" is empty in every
row): the commands are events, not words, so no word spells one. The byte layouts of orders, replies and frames (chapter 12)
are read and written by Machine/Operands.lean, Machine/Layout.lean and Machine/Frames.lean. -/

namespace Sys2Proof

/-- The command that a word of the table spells: none, since the table gives no row any bits (log entry 8). -/
def decodeTableWord (_nbits _w : Nat) : Option Instr := none

end Sys2Proof
end

