-- ==== Sys2Proof/Machine/State.lean ====
section
/-! DEFINITION. The state of the BW-48T as plain data: every register, record, list, counter, mode and timer the spec gives
the part, and the queue of waiting commands. INVENTORY.md lists each with its rule and reset value. -/

namespace Sys2Proof.Machine

/-! ### Enumerations (Table 12-5, Table 3-2, Table 4-1) -/

/-- The part phase (R174, Table 11-1). -/
inductive PartPhase where
  | config | starting | run
deriving DecidableEq, Repr

/-- The 17 phases of a circuit, in the order of their codes (Table 3-2). -/
inductive Phase where
  | unequipped | idle | outSeizing | outRegister | outAwaitAnswer | outAnswered | outClearedBack | outReleasing
  | inRegister | inAwaitAnswer | inAnswered | inClearedBack | inFailed | inGuard | lockout | resetting | restarting
deriving DecidableEq, Repr

/-- The register steps, in the order of Table 4-1. -/
inductive RegStep where
  | signalOn | signalOff | digitWait | awaitSignal | hostWait | responding
deriving DecidableEq, Repr

/-- The purposes of a circuit timer (R29), in the order of Table 12-5. -/
inductive Purpose where
  | ack | compel | digit | response | answer | clearback | release | guardTime | restart
deriving DecidableEq, Repr

/-- The loss policy of a profile (R151, R154). -/
inductive LossPolicy where
  | hold | default
deriving DecidableEq, Repr

/-- The selection method of the hunt unit (R105). -/
inductive Method where
  | ascending | descending | rotating
deriving DecidableEq, Repr

/-- The control parity (R83). -/
inductive Parity where
  | even | odd
deriving DecidableEq, Repr

/-- The condition of a span (R148). -/
inductive Condition where
  | inService | failed
deriving DecidableEq, Repr

/-- The quiesce state of a span (R156 to R158). -/
inductive Quiesce where
  | none | quiescing | quiesced
deriving DecidableEq, Repr

/-- The state of a hunt slot (Table 6-2). -/
inductive SlotState where
  | free | waiting | seizing | offered | ended
deriving DecidableEq, Repr

/-- The state of the station bus controller (R116). -/
inductive BusState where
  | silent | active | fault | mute
deriving DecidableEq, Repr

/-! ### Settings (Table 11-2) -/

/-- One profile (R175). Persistence in multiframes, timers in ticks. -/
structure Profile where
  idlePersist : Nat
  alarmPersist : Nat
  registerPersist : Nat
  linePersist : Nat
  ack : Nat
  compel : Nat
  digit : Nat
  response : Nat
  answer : Nat
  clearback : Nat
  release : Nat
  guardTime : Nat
  holdTime : Nat
  policy : LossPolicy
  autoRequest : Nat
deriving DecidableEq, Repr

/-- The settings of one span (R147). -/
structure SpanSettings where
  base : Nat
  equipped : ChannelSet
  profile : Fin 4
deriving DecidableEq, Repr

/-- The station settings (R175). -/
structure StationSettings where
  ring : Nat
  method : Method
  parity : Parity
  r1 : Nat
  r2 : Nat
  r3 : Nat
  announcePeriod : Nat
  offerTime : Nat
  restartTime : Nat
deriving DecidableEq, Repr

/-- The configuration store (R175). The stored values are the values in force from GO, since they are written only in
CONFIG (log entry 24). -/
structure Settings where
  profiles : Vector Profile 4
  spans : Vector SpanSettings 3
  station : StationSettings
deriving DecidableEq, Repr

/-! ### The circuit record (Table 3-1) -/

/-- The recognizer of a circuit: accepted code A, candidate code C, integrator count n (R13). -/
structure Recognizer where
  accepted : Code
  candidate : Code
  count : Nat
deriving DecidableEq, Repr

/-- Whom a circuit's call belongs to (R27). -/
inductive CallOwner where
  | ofHost (slot : HuntIx) (reference : Reference)
  | foreign (origin : Station) (tag : Tag)
  | incoming
deriving DecidableEq, Repr

/-- The bound request, present in OUT-SEIZING (R27, R31). -/
structure Bound where
  cls : CallClass
  category : Category
  repeatUsed : Bool
  visited : StationSet
deriving DecidableEq, Repr

/-- The forward item last put on the line (R58). -/
inductive LastItem where
  | none
  | digit (index : Nat)
  | endOfAddress
  | category
deriving DecidableEq, Repr

/-- The send digit queue (R58). -/
structure SendQueue where
  digits : List Digit
  complete : Bool
  pointer : Nat
  last : LastItem
  request : Option Code
deriving DecidableEq, Repr

/-- The receive buffer (R72). -/
structure ReceiveBuffer where
  digits : List Digit
  endReceived : Bool
  category : Option Category
  limit : Nat
  lastResponse : Option Code
deriving DecidableEq, Repr

/-- The call fields of a circuit record (R27). -/
structure CallFields where
  owner : Option CallOwner
  step : Option RegStep
  bound : Option Bound
  send : SendQueue
  category : Category
  buffer : ReceiveBuffer
  answerPending : Bool
  held : Bool
  answerStamp : Option Stamp
deriving DecidableEq, Repr

/-- A circuit timer (R29). A remaining count of 0 is an expiry that its event has not yet taken (log entry 2). -/
structure CircuitTimer where
  purpose : Purpose
  remaining : Nat
  paused : Bool
deriving DecidableEq, Repr

/-- One circuit record (Table 3-1). -/
structure Circuit where
  phase : Phase
  sendCode : Code
  recog : Recognizer
  hostBlock : Bool
  quiesceBlock : Bool
  remoteBlocked : Bool
  call : CallFields
  timer : Option CircuitTimer
deriving DecidableEq, Repr

/-! ### Highway, spans, hunt unit, offer unit -/

/-- The highway interface (R3), its times in clock periods (log entry 3). `silence` is the silence interval, `lead` the time from
the marker of the last completed multiframe to its end. -/
structure Highway where
  present : Bool
  goodRun : Nat
  silence : Nat
  lead : Nat
deriving DecidableEq, Repr

/-- The part of a span record that is not a setting (Table 9-1). -/
structure Span where
  condition : Condition
  run : Nat
  quiesce : Quiesce
  holdTimer : Option Nat
deriving DecidableEq, Repr

/-- Where a request comes from (R100). -/
inductive Source where
  | ofHost (slot : HuntIx) (reference : Reference)
  | foreign (origin : Station) (tag : Tag)
deriving DecidableEq, Repr

/-- A request record (R100). -/
structure Request where
  source : Source
  cls : CallClass
  category : Category
  digits : List Digit
  complete : Bool
  visited : StationSet
  repeatUsed : Bool
deriving DecidableEq, Repr

/-- A hunt slot (Table 6-2). The circuit is held as its channel slot. -/
structure HuntSlot where
  state : SlotState
  reference : Option Reference
  circuit : Option Slot
  cancelMark : Bool
deriving DecidableEq, Repr

/-- Where the seize command of the request in dispatch stands (R102, R106). -/
inductive SeizeStage where
  | inFlight | taken | refused
deriving DecidableEq, Repr

/-- The request in dispatch with its chosen circuit (Table 6-1). -/
structure Dispatch where
  request : Request
  circuit : Slot
  stage : SeizeStage
deriving DecidableEq, Repr

/-- The hunt unit (Table 6-1). `level` is the acceptance level, `none` for NONE. -/
structure Hunt where
  slots : Vector HuntSlot 16
  queue : List Request
  dispatch : Option Dispatch
  free : Nat
  level : Option CallClass
  rotation : Option Nat
deriving DecidableEq, Repr

/-- An offer table entry (Table 8-1). `timer` is the remaining count of OFFER-TIME; 0 is an expiry not yet taken. -/
structure OfferEntry where
  tag : Tag
  slot : HuntIx
  reference : Reference
  cls : CallClass
  category : Category
  digits : List Digit
  complete : Bool
  visited : StationSet
  target : Station
  timer : Nat
  pending : Bool
deriving DecidableEq, Repr

/-- The offer unit (R130). -/
structure Offers where
  table : List OfferEntry
  tagCounter : Tag
deriving DecidableEq, Repr

/-! ### The station bus (chapter 7) -/

/-- The contents of an OFFER frame (Table 8-2). -/
structure OfferBody where
  origin : Station
  tag : Tag
  cls : CallClass
  category : Category
  digits : List Digit
  complete : Bool
  visited : StationSet
deriving DecidableEq, Repr

/-- The contents of a directed frame (Table 8-2). Circuits are named by number, 0..1023. -/
inductive FrameBody where
  | offer (o : OfferBody)
  | grant (tag : Tag) (circuit : Nat)
  | exhausted (tag : Tag)
  | withdraw (tag : Tag) (circuit : Nat)
deriving DecidableEq, Repr

/-- A directed frame: its destination and contents; its source is the station's own number. -/
structure Directed where
  dest : Station
  body : FrameBody
deriving DecidableEq, Repr

/-- A LEVEL frame (R113, R127). -/
structure LevelFrame where
  level : Option CallClass
  free : Nat
  phase : PartPhase
deriving DecidableEq, Repr

/-- A directed frame in the send queue (R122, R123). `sending`: its transmission awaits the acknowledge slot; `dropped`: its
offer was freed while it was being sent (R136). -/
structure Queued where
  frame : Directed
  attempts : Nat
  sending : Bool
  dropped : Bool
deriving DecidableEq, Repr

/-- The transmission that awaits its acknowledge slot. `orphan`: RESTART removed its frame while it was being sent (R180). -/
inductive OnLine where
  | directed | level | orphan
deriving DecidableEq, Repr

/-- A neighbour view record (Table 7-4). -/
structure ViewRecord where
  present : Bool
  level : Option CallClass
  free : Nat
  phase : PartPhase
  age : Nat
deriving DecidableEq, Repr

/-- The station bus controller (chapter 7). `reception` holds the bits sampled so far of a frame whose arbitration this station
has lost and which it goes on receiving (R119); empty when there is none. -/
structure Bus where
  state : BusState
  reception : List Bit
  recessiveRun : Nat
  dominantRun : Nat
  queue : List Queued
  levelSlot : Option LevelFrame
  onLine : Option OnLine
  ackDriven : Bool
  checkErrors : Nat
  view : Vector (Option ViewRecord) 8
  announce : Option Nat
deriving DecidableEq, Repr

/-! ### Reports and the order port (chapter 10) -/

/-- The report kinds, in the order of their codes 1..42 (Table 12-4). -/
inductive ReportKind where
  | huntGranted | huntCongestion | huntTimeout | huntFailed | huntCancelled
  | spanFailed | spanRestored | spanQuiesced | busStuck | busRecovered | duplicateStation | restartDone
  | incomingSeizure | seizedWhileBlocked | glare | remoteBlock | remoteUnblock | addressComplete | answer | reAnswer
  | clearBack | clearForward | released | noAnswer | forcedRelease | callFailed | registerTimeout | digitTimeout
  | digits | receiveOverflow | responseTimeout | noClearForward | unexpectedCode | lockout | resetDone | resetFailed
  | callLost | foreignSeizure | withdrawn | stationPresent | stationAbsent | resync
deriving DecidableEq, Repr

/-- A report record (Table 10-4, Table 12-3). `station` is sent with `tag` beside it; `circuits` with `viewChanged`. -/
structure Report where
  kind : ReportKind
  stamp : Stamp
  detail1 : Nat
  detail2 : Nat
  circuit : Option Nat
  reference : Option Reference
  station : Option Station
  tag : Nat
  span : Option SpanIx
  phase : Option (Phase × Option RegStep)
  category : Option Category
  digits : Option (List Digit)
  circuits : Option (List Nat)
  viewChanged : Bool
deriving DecidableEq, Repr

/-- The report unit (R169). The resync set marks channel slots. -/
structure Reports where
  queue : List Report
  resync : BitVec 48
  viewChanged : Bool
deriving DecidableEq, Repr

/-- Reply statuses (Table 10-3). -/
inductive Status where
  | done | clamped | truncated | empty | unknownOrder | malformed | wrongPartPhase | noSuchCircuit | stale | notAllowed
  | noSlot | inUse | queueFull | notFound | badConfig
deriving DecidableEq, Repr

/-- The detail codes of BAD-CONFIG (R177), in the order of Table 12-2. -/
inductive BadConfig where
  | stationOutsideRing | baseUnaligned | baseRepeated | noneEquipped
deriving DecidableEq, Repr

/-- What READ-STATUS returns (R166). -/
structure StatusReply where
  partPhase : PartPhase
  busState : BusState
  checkErrors : Nat
  free : Nat
  level : Option CallClass
  occupied : Nat
  queued : Nat
  resync : Nat
  viewChanged : Bool
  spans : Vector (Condition × Quiesce) 3
deriving DecidableEq, Repr

/-- The fields of a reply (R164 to R167, R172, Table 10-3). -/
inductive ReplyBody where
  | none
  | partPhase (p : PartPhase)
  | circuitNumber (n : Nat)
  | phaseStep (p : Phase) (step : Option RegStep)
  | phaseStepCount (p : Phase) (step : Option RegStep) (count : Nat)
  | reference (r : Reference)
  | detail (d : BadConfig)
  | huntSlot (ix : HuntIx)
  | slotState (st : SlotState)
  | quiesce (q : Quiesce)
  | profile (p : Profile)
  | span (sp : SpanSettings)
  | station (st : StationSettings)
  | stationNumbered (st : StationSettings) (number : Station)
  | status (r : StatusReply)
  | view (records : List (Station × ViewRecord))
  | report (r : Report)
  | checkErrors (n : Nat)
  | circuit (c : Circuit)
deriving DecidableEq, Repr

/-- A reply: its status and its fields; `Machine.replyBytes` gives the bytes and so the length. -/
structure Reply where
  status : Status
  body : ReplyBody
deriving DecidableEq, Repr

/-- The order port (R160, R161). `replyStands`: the latest transaction's order was taken, so its reply is shifted out. -/
structure Port where
  reply : Option Reply
  replyStands : Bool
deriving DecidableEq, Repr

/-! ### Events handed between blocks and not yet taken (log entry 1) -/

/-- One sample handed to the recognizer of a slot (R1): the received code, absent in a substitute multiframe (R4), and the
valid bit of the slot's span in the same multiframe. -/
structure SampleEvent where
  slot : Slot
  code : Option Code
  valid : Bool
deriving DecidableEq, Repr

/-- One valid bit handed to the span supervisor (R1, R4). -/
structure ValidEvent where
  span : SpanIx
  valid : Bool
deriving DecidableEq, Repr

/-- Why a circuit returned a request (R95), in the order of Table 12-4. -/
inductive ReturnReason where
  | glare | noAck | blocked
deriving DecidableEq, Repr

/-- A request returned by a circuit and not yet taken by the hunt unit (R95). -/
structure ReturnEvent where
  slot : Slot
  reason : ReturnReason
  request : Request
deriving DecidableEq, Repr

/-- A directed frame passed to the offer unit and not yet taken (R125). -/
structure ArrivedFrame where
  source : Station
  body : FrameBody
deriving DecidableEq, Repr

/-- The outcome of a directed frame, handed to the offer unit and not yet taken (R122, R123). -/
structure FrameOutcome where
  delivered : Bool
  frame : Directed
deriving DecidableEq, Repr

/-- The actions the span supervisor hands to circuits (R150, R154, R155). -/
inductive ActionKind where
  | failure | callLoss | restoration
deriving DecidableEq, Repr

/-- A span action handed to a circuit and not yet taken. -/
structure SpanAction where
  slot : Slot
  kind : ActionKind
deriving DecidableEq, Repr

/-- All hand-overs not yet taken, each list in the order of handing over. -/
structure Events where
  samples : List SampleEvent
  validBits : List ValidEvent
  actions : List SpanAction
  returned : List ReturnEvent
  arrived : List ArrivedFrame
  outcomes : List FrameOutcome
deriving DecidableEq, Repr

/-! ### The whole state -/

/-- The state of the BW-48T. -/
structure State where
  /-- The commands that wait, first in, first out. -/
  pending : List Instr
  /-- The reset input is asserted (R174). -/
  inReset : Bool
  /-- The part phase (R174). -/
  partPhase : PartPhase
  /-- The tick counter (R12). -/
  tick : Stamp
  /-- The latched station number (R174). -/
  station : Station
  /-- The configuration store (R175). -/
  settings : Settings
  /-- The highway interface (R3). -/
  highway : Highway
  /-- The circuit records by channel slot (R26). -/
  circuits : Vector Circuit 48
  /-- The restarting count (R178). -/
  restarting : Nat
  /-- The span records (R147). -/
  spans : Vector Span 3
  /-- The hunt unit (R97). -/
  hunt : Hunt
  /-- The offer unit (R130). -/
  offers : Offers
  /-- The station bus controller (R116). -/
  bus : Bus
  /-- The report unit (R169). -/
  reports : Reports
  /-- The order port (R161). -/
  port : Port
  /-- The hand-overs not yet taken (log entry 1). -/
  events : Events
deriving DecidableEq, Repr

/-! ### Outcomes other than a next state -/

/-- The part stops on no event: the spec describes none, so there is no fault (INVENTORY.md, Faults). -/
inductive Fault where
deriving DecidableEq, Repr

/-- Reasons to give a command no meaning. -/
inductive Refusal where
  /-- A command whose meaning is not written. Raised by no arm of `exec`: every command has its meaning. Safe. -/
  | notModelled (mnemonic : String)
deriving DecidableEq, Repr

/-! ### Setting one part of the state -/

/-- The state with another pending. -/
def State.setPending (s : State) (v : List Instr) : State := { s with pending := v }

/-- The state with another inReset. -/
def State.setInReset (s : State) (v : Bool) : State := { s with inReset := v }

/-- The state with another partPhase. -/
def State.setPartPhase (s : State) (v : PartPhase) : State := { s with partPhase := v }

/-- The state with another tick. -/
def State.setTick (s : State) (v : Stamp) : State := { s with tick := v }

/-- The state with another station. -/
def State.setStation (s : State) (v : Station) : State := { s with station := v }

/-- The state with another settings. -/
def State.setSettings (s : State) (v : Settings) : State := { s with settings := v }

/-- The state with another highway. -/
def State.setHighway (s : State) (v : Highway) : State := { s with highway := v }

/-- The state with another circuits. -/
def State.setCircuits (s : State) (v : Vector Circuit 48) : State := { s with circuits := v }

/-- The state with another restarting. -/
def State.setRestarting (s : State) (v : Nat) : State := { s with restarting := v }

/-- The state with another spans. -/
def State.setSpans (s : State) (v : Vector Span 3) : State := { s with spans := v }

/-- The state with another hunt. -/
def State.setHunt (s : State) (v : Hunt) : State := { s with hunt := v }

/-- The state with another offers. -/
def State.setOffers (s : State) (v : Offers) : State := { s with offers := v }

/-- The state with another bus. -/
def State.setBus (s : State) (v : Bus) : State := { s with bus := v }

/-- The state with another reports. -/
def State.setReports (s : State) (v : Reports) : State := { s with reports := v }

/-- The state with another port. -/
def State.setPort (s : State) (v : Port) : State := { s with port := v }

/-- The state with another events. -/
def State.setEvents (s : State) (v : Events) : State := { s with events := v }

/-! ### Reset values -/

/-- The default profile (Table 11-2). -/
def Profile.reset : Profile :=
  { idlePersist := 50, alarmPersist := 25, registerPersist := 4, linePersist := 10,
    ack := 200, compel := 1500, digit := 1000, response := 300, answer := 12000, clearback := 9000,
    release := 3000, guardTime := 60, holdTime := 1000, policy := .hold, autoRequest := 2 }

/-- The default settings (Table 11-2): span s has base 16 × s. -/
def Settings.reset : Settings :=
  { profiles := Vector.replicate 4 Profile.reset
    spans := Vector.ofFn fun i => { base := 16 * i.val, equipped := BitVec.allOnes 16, profile := 0 }
    station :=
      { ring := 1, method := .ascending, parity := .even, r1 := 0, r2 := 0, r3 := 0,
        announcePeriod := 50, offerTime := 500, restartTime := 200 } }

/-- The send digit queue at reset (R26). -/
def SendQueue.reset : SendQueue :=
  { digits := [], complete := false, pointer := 0, last := .none, request := none }

/-- The receive buffer at reset (R26). -/
def ReceiveBuffer.reset : ReceiveBuffer :=
  { digits := [], endReceived := false, category := none, limit := 0, lastResponse := none }

/-- The call fields at reset (R26); index 0 is category 1. -/
def CallFields.reset : CallFields :=
  { owner := none, step := none, bound := none, send := SendQueue.reset, category := 0,
    buffer := ReceiveBuffer.reset, answerPending := false, held := false, answerStamp := none }

/-- The recognizer at reset (R13). -/
def Recognizer.reset : Recognizer := { accepted := 0, candidate := 0, count := 0 }

/-- A circuit record at reset (R26). -/
def Circuit.reset : Circuit :=
  { phase := .unequipped, sendCode := 14, recog := Recognizer.reset, hostBlock := false, quiesceBlock := false,
    remoteBlocked := false, call := CallFields.reset, timer := none }

/-- A span record at reset (R147). -/
def Span.reset : Span := { condition := .inService, run := 0, quiesce := .none, holdTimer := none }

/-- A FREE hunt slot (R98). -/
def HuntSlot.reset : HuntSlot := { state := .free, reference := none, circuit := none, cancelMark := false }

/-- The hunt unit at reset (R97). -/
def Hunt.reset : Hunt :=
  { slots := Vector.replicate 16 HuntSlot.reset, queue := [], dispatch := none, free := 0, level := none, rotation := none }

/-- The station bus controller at reset (R115 to R117, R123, R124, R127, R128). -/
def Bus.reset : Bus :=
  { state := .silent, reception := [], recessiveRun := 0, dominantRun := 0, queue := [], levelSlot := none, onLine := none,
    ackDriven := false, checkErrors := 0, view := Vector.replicate 8 none, announce := none }

/-- The report unit at reset (R169). -/
def Reports.reset : Reports := { queue := [], resync := 0, viewChanged := false }

/-- No hand-over waits. -/
def Events.none : Events :=
  { samples := [], validBits := [], actions := [], returned := [], arrived := [], outcomes := [] }

/-- The machine right after the reset input is released with the straps at 0 (R174): in CONFIG, every setting at its default,
every block at its reset values. DESIGN CHOICE: station number 0 (log entry 5). -/
def State.reset : State :=
  { pending := []
    inReset := false
    partPhase := .config
    tick := 0
    station := 0
    settings := Settings.reset
    highway := { present := false, goodRun := 0, silence := 0, lead := 0 }
    circuits := Vector.replicate 48 Circuit.reset
    restarting := 0
    spans := Vector.replicate 3 Span.reset
    hunt := Hunt.reset
    offers := { table := [], tagCounter := 0 }
    bus := Bus.reset
    reports := Reports.reset
    port := { reply := none, replyStands := false }
    events := Events.none }

end Sys2Proof.Machine
end

