-- ==== Sys2Proof/WellFormed.lean ====
section
/-! DEFINITION. Which commands the outside can send. A command that fails its check has a meaning all the same (exec is
total), but no part outside the model can produce it. -/

namespace Sys2Proof

/-- The field bytes of a transaction are counted by one length byte (R160). -/
def fieldsOk (fields : List Byte) : Bool := fields.length ≤ 255

/-- The kinds of Table 12-1 are 1..23. -/
def listedKind (kind : Byte) : Bool := 1 ≤ kind.toNat && kind.toNat ≤ 23

/-- The bytes of a transaction hold a whole order: kind, length and as many field bytes as the length gives (R160). -/
def wholeOrder (bytes : List Byte) : Bool :=
  match bytes with
  | _ :: len :: fields => len.toNat ≤ fields.length
  | _ => false

/-- A frame has a dominant start bit (Table 7-2); idle bits may stand before it. -/
def startsFrame (line : List Bit) : Bool := line.contains false

/-- The check of one command. -/
def Instr.wellFormed : Instr → Bool
  | .orderDiscarded bytes => !wholeOrder bytes
  | .unknownOrder kind fields => !listedKind kind && fieldsOk fields
  | .busFrameReceived line => startsFrame line
  | .setProfile f => fieldsOk f
  | .setStation f => fieldsOk f
  | .setSpan f => fieldsOk f
  | .go f => fieldsOk f
  | .readConfig f => fieldsOk f
  | .readStatus f => fieldsOk f
  | .readView f => fieldsOk f
  | .fetchReport f => fieldsOk f
  | .clearErrors f => fieldsOk f
  | .restart f => fieldsOk f
  | .readCircuit f => fieldsOk f
  | .hunt f => fieldsOk f
  | .cancel f => fieldsOk f
  | .quiesceSpan f => fieldsOk f
  | .resumeSpan f => fieldsOk f
  | .addDigits f => fieldsOk f
  | .respond f => fieldsOk f
  | .answer f => fieldsOk f
  | .clearBack f => fieldsOk f
  | .clearForward f => fieldsOk f
  | .block f => fieldsOk f
  | .unblock f => fieldsOk f
  | .resetCircuit f => fieldsOk f
  | .resetInputAsserted => true
  | .resetRelease _ => true
  | .completedMultiframe _ _ _ => true
  | .multiframeNotCompleted _ => true
  | .highwayLost => true
  | .substituteMultiframe _ => true
  | .sample _ => true
  | .spanValidBit _ => true
  | .spanFailureAction _ => true
  | .restorationAction _ => true
  | .callLossAction _ => true
  | .tickBoundary => true
  | .ackExpiry _ => true
  | .compelExpiryOutgoing _ => true
  | .compelExpiryIncoming _ => true
  | .digitTimeout _ => true
  | .responseTimeout _ => true
  | .noAnswer _ => true
  | .forcedRelease _ => true
  | .releaseExpiryReleasing _ => true
  | .releaseExpiryResetting _ => true
  | .noClearForward _ => true
  | .guardExpiry _ => true
  | .restartExpiry _ => true
  | .holdTimeExpiry _ => true
  | .offerTimeExpiry _ => true
  | .announceExpiry => true
  | .seizeCommand => true
  | .seizeCommandOutcome => true
  | .requestReturn _ => true
  | .dispatch => true
  | .offerReceived => true
  | .grantReceived => true
  | .exhaustedReceived => true
  | .withdrawReceived => true
  | .frameTransmit _ _ => true
  | .acknowledgeSlot _ => true
  | .originOfferOutcome => true
  | .forwardedOfferOutcome => true
  | .grantOutcome => true
  | .busStuck _ => true
  | .busRecovered _ => true

end Sys2Proof
end

