-- ==== Sys2Proof/Machine/Codes.lean ====
section
/-! DEFINITION. The numeric codes of chapter 12 (Tables 12-1 to 12-5). -/

namespace Sys2Proof.Machine

/-- Phase codes 1..17 (Table 3-2). -/
def Phase.code : Phase → Nat
  | .unequipped => 1
  | .idle => 2
  | .outSeizing => 3
  | .outRegister => 4
  | .outAwaitAnswer => 5
  | .outAnswered => 6
  | .outClearedBack => 7
  | .outReleasing => 8
  | .inRegister => 9
  | .inAwaitAnswer => 10
  | .inAnswered => 11
  | .inClearedBack => 12
  | .inFailed => 13
  | .inGuard => 14
  | .lockout => 15
  | .resetting => 16
  | .restarting => 17

/-- Register step codes 1..6 in the order of Table 4-1 (Table 12-5). -/
def RegStep.code : RegStep → Nat
  | .signalOn => 1
  | .signalOff => 2
  | .digitWait => 3
  | .awaitSignal => 4
  | .hostWait => 5
  | .responding => 6

/-- The step byte: 0 for none (Table 12-5). -/
def stepCode : Option RegStep → Nat
  | none => 0
  | some t => t.code

/-- Timer purpose codes 1..9 (Table 12-5). -/
def Purpose.code : Purpose → Nat
  | .ack => 1
  | .compel => 2
  | .digit => 3
  | .response => 4
  | .answer => 5
  | .clearback => 6
  | .release => 7
  | .guardTime => 8
  | .restart => 9

/-- Part phase codes (Table 12-5). -/
def PartPhase.code : PartPhase → Nat
  | .config => 0
  | .starting => 1
  | .run => 2

/-- Bus state codes (Table 12-5). -/
def BusState.code : BusState → Nat
  | .silent => 0
  | .active => 1
  | .fault => 2
  | .mute => 3

/-- Condition codes (Table 12-5). -/
def Condition.code : Condition → Nat
  | .inService => 0
  | .failed => 1

/-- Quiesce state codes (Table 12-5). -/
def Quiesce.code : Quiesce → Nat
  | .none => 0
  | .quiescing => 1
  | .quiesced => 2

/-- Level codes: 0..3, and 4 for NONE (Table 12-5). -/
def levelCode : Option CallClass → Nat
  | none => 4
  | some c => c.val

/-- Selection method codes (Table 12-5). -/
def Method.code : Method → Nat
  | .ascending => 0
  | .descending => 1
  | .rotating => 2

/-- Control parity codes (Table 12-5). -/
def Parity.code : Parity → Nat
  | .even => 0
  | .odd => 1

/-- Loss policy codes (Table 12-5). -/
def LossPolicy.code : LossPolicy → Nat
  | .hold => 0
  | .default => 1

/-- Hunt slot state codes (Table 12-5). -/
def SlotState.code : SlotState → Nat
  | .free => 0
  | .waiting => 1
  | .seizing => 2
  | .offered => 3
  | .ended => 4

/-- Report kind codes 1..42 (Table 12-4). -/
def ReportKind.code : ReportKind → Nat
  | .huntGranted => 1
  | .huntCongestion => 2
  | .huntTimeout => 3
  | .huntFailed => 4
  | .huntCancelled => 5
  | .spanFailed => 6
  | .spanRestored => 7
  | .spanQuiesced => 8
  | .busStuck => 9
  | .busRecovered => 10
  | .duplicateStation => 11
  | .restartDone => 12
  | .incomingSeizure => 13
  | .seizedWhileBlocked => 14
  | .glare => 15
  | .remoteBlock => 16
  | .remoteUnblock => 17
  | .addressComplete => 18
  | .answer => 19
  | .reAnswer => 20
  | .clearBack => 21
  | .clearForward => 22
  | .released => 23
  | .noAnswer => 24
  | .forcedRelease => 25
  | .callFailed => 26
  | .registerTimeout => 27
  | .digitTimeout => 28
  | .digits => 29
  | .receiveOverflow => 30
  | .responseTimeout => 31
  | .noClearForward => 32
  | .unexpectedCode => 33
  | .lockout => 34
  | .resetDone => 35
  | .resetFailed => 36
  | .callLost => 37
  | .foreignSeizure => 38
  | .withdrawn => 39
  | .stationPresent => 40
  | .stationAbsent => 41
  | .resync => 42

/-- Reply status codes (Table 12-2). -/
def Status.code : Status → Nat
  | .done => 0
  | .clamped => 1
  | .truncated => 2
  | .empty => 3
  | .unknownOrder => 16
  | .malformed => 17
  | .wrongPartPhase => 18
  | .noSuchCircuit => 19
  | .stale => 20
  | .notAllowed => 21
  | .noSlot => 22
  | .inUse => 23
  | .queueFull => 24
  | .notFound => 25
  | .badConfig => 26

/-- Detail codes of BAD-CONFIG (Table 12-2). -/
def BadConfig.code : BadConfig → Nat
  | .stationOutsideRing => 1
  | .baseUnaligned => 2
  | .baseRepeated => 3
  | .noneEquipped => 4

/-- A flag as a number. DESIGN CHOICE: a flag that has a byte of its own in a reply or report is sent in bit 0 (log entry 36). -/
def flag (b : Bool) : Nat := if b then 1 else 0

/-- Details of HUNT-CONGESTION (Table 12-4). -/
def congestionTableFull : Nat := 1
/-- No candidate (R132). -/
def congestionNoCandidate : Nat := 2
/-- Re-routing found no candidate (R135). -/
def congestionUndelivered : Nat := 3
/-- An EXHAUSTED was taken (R141). -/
def congestionExhausted : Nat := 4

/-- Detail of HUNT-FAILED (Table 12-4). -/
def ReturnReason.code : ReturnReason → Nat
  | .glare => 1
  | .noAck => 2
  | .blocked => 3

/-- Details of HUNT-CANCELLED (R109, Table 12-4): the CANCEL order. -/
def cancelledByCancel : Nat := 1
/-- The CLEAR-FORWARD order. -/
def cancelledByClearForward : Nat := 2
/-- The RESET-CIRCUIT order. -/
def cancelledByReset : Nat := 3
/-- The span supervisor's call-loss action. -/
def cancelledByCallLoss : Nat := 4

/-- Details of LOCKOUT (Table 12-4): ACK expired. -/
def lockoutNoAck : Nat := 1
/-- RELEASE expired. -/
def lockoutNoRelease : Nat := 2

/-- Details of WITHDRAWN (Table 12-4): the GRANT was not delivered. -/
def withdrawnUndelivered : Nat := 1
/-- A WITHDRAW came. -/
def withdrawnByWithdraw : Nat := 2

/-- Details of STATION-ABSENT (Table 12-4): aged. -/
def absentAged : Nat := 1
/-- A delivery failed. -/
def absentDelivery : Nat := 2

end Sys2Proof.Machine
end

