-- ==== Sys2Proof/Machine/Flags.lean ====
section
/-! DEFINITION. Every value the part derives from its records: the sending table (R7), the persistence threshold (R15), the
controlled test (R83), eligibility (R103), the acceptance level (R104), the send portion (R5) and the
attention output (R173). -/

namespace Sys2Proof.Machine

/-! ### Channel slots and their spans (section 1.1) -/

/-- The span of a channel slot. -/
def spanOf (slot : Slot) : SpanIx := ⟨slot.val / 16, by omega⟩

/-- The channel of a channel slot. -/
def channelOf (slot : Slot) : Channel := ⟨slot.val % 16, by omega⟩

/-- The channel slot of a span's channel. -/
def slotOf (sp : SpanIx) (ch : Channel) : Slot := ⟨16 * sp.val + ch.val, by omega⟩

/-- All channel slots in slot order. -/
def allSlots : List Slot := List.finRange 48

/-- The channel slots of one span in channel order. -/
def slotsOf (sp : SpanIx) : List Slot := (List.finRange 16).map (slotOf sp)

/-- The record of a channel slot's circuit. -/
def State.circuit (s : State) (slot : Slot) : Circuit := s.circuits[slot]

/-- The record of a span. -/
def State.span (s : State) (sp : SpanIx) : Span := s.spans[sp]

/-- The settings of a span. -/
def State.spanSettings (s : State) (sp : SpanIx) : SpanSettings := s.settings.spans[sp]

/-- The profile a span uses (R147). -/
def State.spanProfile (s : State) (sp : SpanIx) : Profile := s.settings.profiles[(s.spanSettings sp).profile]

/-- The profile of the circuit's span (R14, R29). -/
def State.profile (s : State) (slot : Slot) : Profile := s.spanProfile (spanOf slot)

/-- The circuit number of a channel slot: its span base plus its channel (R147). -/
def State.circuitNumber (s : State) (slot : Slot) : Nat := (s.spanSettings (spanOf slot)).base + (channelOf slot).val

/-- The slot is named in its span's equipped set (R147). -/
def State.equipped (s : State) (slot : Slot) : Bool := (s.spanSettings (spanOf slot)).equipped.getLsbD (channelOf slot).val

/-- The number of equipped circuits (R178). -/
def State.equippedCount (s : State) : Nat := allSlots.countP s.equipped

/-- The circuit of a number within one span, if the channel is equipped. -/
def State.locateIn (s : State) (n : Nat) (sp : SpanIx) : Option Slot :=
  let g := s.spanSettings sp
  if h : g.base ≤ n ∧ n < g.base + 16 then
    let ch : Channel := ⟨n - g.base, by omega⟩
    if g.equipped.getLsbD ch.val then some (slotOf sp ch) else none
  else none

/-- The circuit a number names: the base of one of the spans plus a channel in that span's equipped set (R162). -/
def State.locate (s : State) (n : Nat) : Option Slot :=
  (List.finRange 3).findSome? (s.locateIn n)

/-! ### Phases -/

/-- The OUT- phases (Table 3-2). -/
def Phase.isOut : Phase → Bool
  | .outSeizing | .outRegister | .outAwaitAnswer | .outAnswered | .outClearedBack | .outReleasing => true
  | .unequipped | .idle | .inRegister | .inAwaitAnswer | .inAnswered | .inClearedBack | .inFailed | .inGuard
  | .lockout | .resetting | .restarting => false

/-- The IN- phases (Table 3-2). -/
def Phase.isIn : Phase → Bool
  | .inRegister | .inAwaitAnswer | .inAnswered | .inClearedBack | .inFailed | .inGuard => true
  | .unequipped | .idle | .outSeizing | .outRegister | .outAwaitAnswer | .outAnswered | .outClearedBack | .outReleasing
  | .lockout | .resetting | .restarting => false

/-- A call phase: an OUT- or an IN- phase (R27, R150). -/
def Phase.isCall (p : Phase) : Bool := p.isOut || p.isIn

/-- The register phases (R57). -/
def Phase.isRegister (p : Phase) : Bool := p = .outRegister || p = .inRegister

/-! ### The sending table (Table 1-3) -/

/-- A digit's forward code: d for 1..9, 10 for 0 (section 1.4). -/
def digitCode (d : Digit) : Code := if d = 0 then 10 else ⟨d.val, by omega⟩

/-- The digit a forward code 1..10 is read as (R73). -/
def codeDigit (f : Code) : Digit := if h : f.val < 10 then ⟨f.val, h⟩ else 0

/-- A category's forward code 1..4. -/
def categoryCode (k : Category) : Code := ⟨k.val + 1, by omega⟩

/-- The category a forward code 1..4 is read as (R73). -/
def codeCategory (f : Code) : Category := if h : 1 ≤ f.val ∧ f.val ≤ 4 then ⟨f.val - 1, by omega⟩ else 0

/-- The current forward item in SIGNAL-ON is the item the last item names (R59). With no item named, HOLD: no SIGNAL-ON
record is so. -/
def itemCode (call : CallFields) : Code :=
  match call.send.last with
  | .none => 12
  | .digit i => match call.send.digits[i]? with
    | some d => digitCode d
    | none => 12
  | .endOfAddress => 11
  | .category => categoryCode call.category

/-- The failure code in force: the last response when it is 8, 9 or 10, and 9 otherwise (R7). -/
def failureCode (lastResponse : Option Code) : Code :=
  match lastResponse with
  | some r => if r = 8 ∨ r = 9 ∨ r = 10 then r else 9
  | none => 9

/-- The span's condition is FAILED. -/
def State.failed (s : State) (sp : SpanIx) : Bool := (s.span sp).condition = .failed

/-- The span is FAILED under the DEFAULT policy of its profile (R7). -/
def State.failedDefault (s : State) (sp : SpanIx) : Bool := s.failed sp && (s.spanProfile sp).policy = .default

/-- A local block reason is set (R89). -/
def Circuit.blocked (c : Circuit) : Bool := c.hostBlock || c.quiesceBlock

/-- Table 1-3: the code a circuit sends (R7). -/
def State.sendingCode (s : State) (slot : Slot) (c : Circuit) : Code :=
  match c.phase with
  | .unequipped => 14
  | .idle => if c.blocked || s.failedDefault (spanOf slot) then 14 else 0
  | .outSeizing => 12
  | .outRegister => if c.call.step = some .signalOn then itemCode c.call else 12
  | .outAwaitAnswer => 12
  | .outAnswered => 12
  | .outClearedBack => 12
  | .outReleasing => 0
  | .inRegister => if c.call.step = some .responding then c.call.buffer.lastResponse.getD 1 else 1
  | .inAwaitAnswer => 1
  | .inAnswered => 11
  | .inClearedBack => 12
  | .inFailed => failureCode c.call.buffer.lastResponse
  | .inGuard => 13
  | .lockout => 14
  | .resetting => 0
  | .restarting => 14

/-! ### Recognition thresholds (R15) -/

/-- The threshold for a candidate in a phase (Table 2-1, R15). -/
def threshold (p : Profile) (phase : Phase) (cand : Code) : Nat :=
  if cand = 0 then p.idlePersist
  else if cand = 15 then p.alarmPersist
  else if phase.isRegister then p.registerPersist
  else p.linePersist

/-! ### Control, eligibility, acceptance level -/

/-- The circuit number has the control parity (R83). -/
def State.controlled (s : State) (slot : Slot) : Bool :=
  match s.settings.station.parity with
  | .even => s.circuitNumber slot % 2 = 0
  | .odd => s.circuitNumber slot % 2 = 1

/-- A circuit may be chosen for a request now (R103). -/
def State.eligible (s : State) (slot : Slot) : Bool :=
  let c := s.circuit slot
  let g := s.span (spanOf slot)
  c.phase = .idle && !c.hostBlock && !c.quiesceBlock && !c.remoteBlocked && g.condition = .inService && g.quiesce = .none

/-- The number of eligible circuits, which the free count F holds (R103). -/
def State.eligibleCount (s : State) : Nat := allSlots.countP s.eligible

/-- The reserve threshold r_c of a class; r_0 is 0 (R104). -/
def reserve (st : StationSettings) (c : CallClass) : Nat :=
  if c = 0 then 0 else if c = 1 then st.r1 else if c = 2 then st.r2 else st.r3

/-- Class c is admitted at free count f (R104). -/
def admits (st : StationSettings) (f : Nat) (c : CallClass) : Bool := reserve st c < f

/-- The acceptance level at free count f: the largest class admitted, NONE when f is 0 (R104). -/
def levelFor (st : StationSettings) (f : Nat) : Option CallClass :=
  if admits st f 3 then some 3
  else if admits st f 2 then some 2
  else if admits st f 1 then some 1
  else if admits st f 0 then some 0
  else none

/-! ### Outputs -/

/-- The 48 send codes that the send portion of a multiframe carries, in slot order (R5). -/
def State.sendPortion (s : State) : Vector Code 48 := s.circuits.map Circuit.sendCode

/-- The attention output: asserted while the report queue holds a report (R173). -/
def State.attention (s : State) : Bool := !s.reports.queue.isEmpty

end Sys2Proof.Machine
end

