-- ==== Sys2Proof/Machine/Ops.lean ====
section
/-! DEFINITION. The named operations that the meanings share: running only when the reset input is released, writing circuit
records, timers, reports, the send queue and the LEVEL slot, recounting, hunt slot outcomes, replies. Entry to STARTING, the
block's counterpart of an exception entry, is in Machine/Start.lean. -/

namespace Sys2Proof.Machine

/-! ### Reset input -/

/-- While the reset input is asserted every state is held at its reset value (R174), so an event then changes nothing
(log entry 6). -/
def whenReleased (s : State) (f : State → State) : Host.Outcome State Fault Refusal :=
  .next (if s.inReset then s else f s)

/-! ### Circuit records -/

/-- Write a circuit record as it stands, its send code left as given. -/
def State.writeCircuit (s : State) (slot : Slot) (c : Circuit) : State :=
  s.setCircuits (s.circuits.set slot.val c slot.isLt)

/-- Write a circuit record with its send code taken from the sending table in the same event (R7, R8). -/
def State.putCircuit (s : State) (slot : Slot) (c : Circuit) : State :=
  s.writeCircuit slot { c with sendCode := s.sendingCode slot c }

/-- Write a span record. -/
def State.putSpan (s : State) (sp : SpanIx) (g : Span) : State :=
  s.setSpans (s.spans.set sp.val g sp.isLt)

/-! ### Timers (R9, R10, R29, R152) -/

/-- The value a circuit timer is started with: from the profile of the circuit's span, RESTART from the station settings
(R29). -/
def State.timerValue (s : State) (slot : Slot) (p : Purpose) : Nat :=
  let pr := s.profile slot
  match p with
  | .ack => pr.ack
  | .compel => pr.compel
  | .digit => pr.digit
  | .response => pr.response
  | .answer => pr.answer
  | .clearback => pr.clearback
  | .release => pr.release
  | .guardTime => pr.guardTime
  | .restart => s.settings.station.restartTime

/-- The circuit timer after a start with its configured value: on a FAILED span it is started paused, except RESTART (R152);
a CLEARBACK of 0 starts none (R43). -/
def State.startTimer (s : State) (slot : Slot) (p : Purpose) : Option CircuitTimer :=
  let t := s.timerValue slot p
  if p = .clearback ∧ t = 0 then none
  else some { purpose := p, remaining := t, paused := s.failed (spanOf slot) && p ≠ .restart }

/-- The circuit's timer of this purpose has expired and its expiry has not been taken; a paused timer does not expire
(R9, R10, log entry 2). -/
def Circuit.due (c : Circuit) (p : Purpose) : Bool :=
  c.timer = some { purpose := p, remaining := 0, paused := false }

/-- A timer with its paused flag as given (R10). -/
def pauseTimer (paused : Bool) (t : Option CircuitTimer) : Option CircuitTimer :=
  t.map fun u => { u with paused := paused }

/-- One tick boundary at a remaining count (R9). -/
def countDown (t : Option Nat) : Option Nat := t.map (· - 1)

/-! ### Reports (R168 to R171) -/

/-- A span report kind (Table 10-5). -/
def ReportKind.ofSpan (k : ReportKind) : Bool := k = .spanFailed || k = .spanRestored || k = .spanQuiesced

/-- A bus report kind (Table 10-5). -/
def ReportKind.ofBus (k : ReportKind) : Bool := k = .busStuck || k = .busRecovered

/-- A hunt outcome kind (R109). -/
def ReportKind.ofHunt (k : ReportKind) : Bool :=
  k = .huntGranted || k = .huntCongestion || k = .huntTimeout || k = .huntFailed || k = .huntCancelled

/-- The guaranteed kinds (Table 10-5). -/
def ReportKind.guaranteed (k : ReportKind) : Bool :=
  k.ofHunt || k.ofSpan || k.ofBus || k = .duplicateStation || k = .restartDone

/-- The two reports are entries of one owner, the same span or the bus (R170). -/
def Report.sameOwner (r q : Report) : Bool :=
  (r.kind.ofSpan && q.kind.ofSpan && r.span = q.span) || (r.kind.ofBus && q.kind.ofBus)

/-- A report of a kind with the stamp of the posting event (R168) and no field beyond it. Details that Table 12-4 gives no
meaning are 0 (R181). -/
def State.report (s : State) (k : ReportKind) : Report :=
  { kind := k, stamp := s.tick, detail1 := 0, detail2 := 0, circuit := none, reference := none, station := none, tag := 0,
    span := none, phase := none, category := none, digits := none, circuits := none, viewChanged := false }

/-- The report unit with another queue. -/
def State.setReportQueue (s : State) (q : List Report) : State := s.setReports { s.reports with queue := q }

/-- Hand a report to the report unit (R169, R170). `divert` is the circuit a divertible report names; a divertible report that
names none is STATION-PRESENT or STATION-ABSENT. -/
def State.post (s : State) (divert : Option Slot) (r : Report) : State :=
  if r.kind.guaranteed then
    if s.reports.queue.any r.sameOwner then
      s.setReportQueue (s.reports.queue.map fun q => if r.sameOwner q then r else q)
    else s.setReportQueue (s.reports.queue ++ [r])
  else if s.reports.queue.length < Config.divertAt then s.setReportQueue (s.reports.queue ++ [r])
  else
    match divert with
    | some slot => s.setReports { s.reports with resync := s.reports.resync ||| BitVec.twoPow 48 slot.val }
    | none => s.setReports { s.reports with viewChanged := true }

/-- A circuit report: it names its circuit and the phase and step afterwards (Table 10-4). -/
def State.circuitReport (s : State) (k : ReportKind) (slot : Slot) (c : Circuit) : Report :=
  { s.report k with circuit := some (s.circuitNumber slot), phase := some (c.phase, c.call.step) }

/-- Post a circuit report that carries nothing but the circuit, one detail and the phase afterwards. -/
def State.postCircuit (s : State) (k : ReportKind) (slot : Slot) (c : Circuit) (detail : Nat := 0) : State :=
  s.post (some slot) { s.circuitReport k slot c with detail1 := detail }

/-- Post or rewrite a span's report: the condition and quiesce state as they stand (R149). -/
def State.postSpan (s : State) (k : ReportKind) (sp : SpanIx) : State :=
  let g := s.span sp
  s.post none { s.report k with span := some sp, detail1 := g.condition.code, detail2 := g.quiesce.code }

/-- Post or rewrite the bus report: the bus state after the change (R170). -/
def State.postBus (s : State) (k : ReportKind) : State :=
  s.post none { s.report k with detail1 := s.bus.state.code }

/-! ### The station bus: handing frames over (R123, R113, R127) -/

/-- The bus state sends or keeps frames (R116, R123). -/
def BusState.carries (b : BusState) : Bool := b = .active || b = .fault

/-- Hand the outcome of a directed frame to the offer unit. The outcome of an EXHAUSTED or a WITHDRAW is not acted on
(R139, R141), so none is handed (log entry 23). -/
def State.handOutcome (s : State) (o : FrameOutcome) : State :=
  match o.frame.body with
  | .offer _ => s.setEvents { s.events with outcomes := s.events.outcomes ++ [o] }
  | .grant _ _ => s.setEvents { s.events with outcomes := s.events.outcomes ++ [o] }
  | .exhausted _ => s
  | .withdraw _ _ => s

/-- Hand a directed frame to the station bus controller (R123). -/
def State.sendFrame (s : State) (f : Directed) : State :=
  if s.bus.queue.length < Config.sendQueueLimit ∧ s.bus.state.carries = true then
    s.setBus { s.bus with queue := s.bus.queue ++ [{ frame := f, attempts := 0, sending := false, dropped := false }] }
  else s.handOutcome { delivered := false, frame := f }

/-- Write a LEVEL frame to the LEVEL slot; in MUTE (and in SILENT, where none is handed) it is discarded (R113, R126). -/
def State.writeLevel (s : State) : State :=
  if s.bus.state.carries then
    s.setBus { s.bus with levelSlot := some { level := s.hunt.level, free := s.hunt.free, phase := s.partPhase } }
  else s

/-! ### Recounting (R103, R104, R113) -/

/-- Recount F and L; a change of L hands a LEVEL frame in the same event. -/
def State.recount (s : State) : State :=
  let f := s.eligibleCount
  let l := levelFor s.settings.station f
  let t := s.setHunt { s.hunt with free := f, level := l }
  if l = s.hunt.level then t else t.writeLevel

/-- What the circuit engine tells the hunt unit of: a circuit that enters or leaves IDLE, and a change of its local block
reasons or its remote-blocked flag (R28). -/
def notifies (before after : Circuit) : Bool :=
  (before.phase = .idle) != (after.phase = .idle) || before.hostBlock != after.hostBlock
    || before.quiesceBlock != after.quiesceBlock || before.remoteBlocked != after.remoteBlocked

/-- A circuit is done for the completion of a quiesce: IDLE with the QUIESCE reason, or in LOCKOUT (R157). -/
def Circuit.quiesceDone (c : Circuit) : Bool := (c.phase = .idle && c.quiesceBlock) || c.phase = .lockout

/-- The completion test of a quiesce (R157). -/
def State.quiesceTest (s : State) (sp : SpanIx) : State :=
  if (s.span sp).quiesce = .quiescing ∧ (slotsOf sp).all (fun x => !s.equipped x || (s.circuit x).quiesceDone) = true then
    ((s.putSpan sp { s.span sp with quiesce := .quiesced }).postSpan .spanQuiesced sp).recount
  else s

/-- The event brought the circuit into IDLE or LOCKOUT (R157). -/
def entersRest (before after : Circuit) : Bool :=
  (after.phase = .idle && before.phase ≠ .idle) || (after.phase = .lockout && before.phase ≠ .lockout)

/-- The end of an event at a circuit whose record was `before`: the hunt unit's recount where it is notified (R28), then the
completion test where the circuit came into IDLE or LOCKOUT (R157, log entry 13). DESIGN CHOICE: one recount on the records as the
event leaves them; a passage through IDLE within the event makes none of its own (log entry 41). -/
def State.settle (s : State) (slot : Slot) (before : Circuit) : State :=
  let after := s.circuit slot
  let t := if notifies before after then s.recount else s
  if entersRest before after && s.equipped slot then t.quiesceTest (spanOf slot) else t

/-! ### Leaving the call phases (R27, R157) -/

/-- The record in IDLE: call fields at reset, no timer, and the QUIESCE reason taken on a span that is QUIESCING or QUIESCED
(R157). -/
def State.idleRecord (s : State) (slot : Slot) (c : Circuit) : Circuit :=
  { c with
    phase := .idle
    call := CallFields.reset
    timer := none
    quiesceBlock := c.quiesceBlock || (s.equipped slot && (s.span (spanOf slot)).quiesce ≠ .none) }

/-- The record in LOCKOUT: call fields at reset, no timer (R53). -/
def lockoutRecord (c : Circuit) : Circuit := { c with phase := .lockout, call := CallFields.reset, timer := none }

/-- The record in RESETTING: call fields at reset, RELEASE started (R54, R82). -/
def State.resettingRecord (s : State) (slot : Slot) (c : Circuit) : Circuit :=
  { c with phase := .resetting, call := CallFields.reset, timer := s.startTimer slot .release }

/-! ### Hunt slots (R98, R108, R109) -/

/-- A hunt slot. -/
def State.huntSlot (s : State) (ix : HuntIx) : HuntSlot := s.hunt.slots[ix]

/-- Write a hunt slot. -/
def State.putHuntSlot (s : State) (ix : HuntIx) (h : HuntSlot) : State :=
  s.setHunt { s.hunt with slots := s.hunt.slots.set ix.val h ix.isLt }

/-- The slot holds a live request of this reference: it is occupied and not ENDED (R98). -/
def HuntSlot.holds (h : HuntSlot) (r : Reference) : Bool :=
  h.reference = some r && (h.state = .waiting || h.state = .seizing || h.state = .offered)

/-- End a hunt slot with its one outcome report (R98, R109). A slot that no longer holds the request has had its outcome. -/
def State.endSlot (s : State) (ix : HuntIx) (r : Reference) (rep : Report) : State :=
  if (s.huntSlot ix).holds r then
    (s.putHuntSlot ix { s.huntSlot ix with state := .ended, circuit := none }).post none { rep with reference := some r }
  else s

/-- HUNT-CANCELLED with its reason and, where one is named, its circuit (R109). -/
def State.cancelledReport (s : State) (reason : Nat) (circuit : Option Slot) : Report :=
  { s.report .huntCancelled with detail1 := reason, circuit := circuit.map s.circuitNumber }

/-- A circuit in OUT-SEIZING drops its bound request: a LOCAL slot ends with HUNT-CANCELLED (R47, R54, R109); a FOREIGN request
is left to its origin's OFFER-TIME. -/
def State.dropBound (s : State) (slot : Slot) (reason : Nat) : State :=
  let c := s.circuit slot
  if c.phase = .outSeizing then
    match c.call.owner with
    | some (.ofHost ix r) => s.endSlot ix r (s.cancelledReport reason (some slot))
    | _ => s
  else s

/-! ### Clear-forward (R47, R71) -/

/-- The record in OUT-RELEASING: the step, the pending request and the bound request removed, RELEASE started; the other call
fields are kept (R47, R71). -/
def State.releasingRecord (s : State) (slot : Slot) (c : Circuit) : Circuit :=
  { c with
    phase := .outReleasing
    call := { c.call with step := none, bound := none, send := { c.call.send with request := none } }
    timer := s.startTimer slot .release }

/-- Clear-forward of an outgoing call. `reason` names the cause in HUNT-CANCELLED, which is posted only where a LOCAL request is
dropped in OUT-SEIZING. -/
def State.clearForward (s : State) (slot : Slot) (reason : Nat) : State :=
  (s.dropBound slot reason).putCircuit slot (s.releasingRecord slot (s.circuit slot))

/-- Post a report that carries OUT-RELEASING as the phase afterwards, then clear forward (R45, R61, R65, R69). -/
def State.failForward (s : State) (slot : Slot) (k : ReportKind) (detail : Nat) : State :=
  (s.postCircuit k slot (s.releasingRecord slot (s.circuit slot)) detail).clearForward slot cancelledByClearForward

/-! ### Stations and sets -/

/-- The ring size (R125). -/
def State.ring (s : State) : Nat := s.settings.station.ring

/-- A set of stations with one more member. -/
def addStation (v : StationSet) (st : Station) : StationSet := v ||| BitVec.twoPow 8 st.val

/-! ### Replies (R161, R164) -/

/-- Write the reply holder in the event that takes the order (R161). -/
def State.reply (s : State) (st : Status) (b : ReplyBody) : State :=
  s.setPort { reply := some { status := st, body := b }, replyStands := true }

/-- DONE with the phase and step the circuit holds now (R30, R164). -/
def State.replyPhase (s : State) (st : Status) (slot : Slot) : State :=
  let c := s.circuit slot
  s.reply st (.phaseStep c.phase c.call.step)

end Sys2Proof.Machine
end

