-- ==== Sys2Proof/Machine/Engine.lean ====
section
/-! DEFINITION. The circuit engine's handling of accepted codes: seizure, glare, blocking, answer, release (chapters 3 and 5) and
register signalling at both ends (chapter 4). Each function acts on one circuit in one event; `codeChanged` chooses by phase and
step. The caller makes the event's notifications (`State.settle`). -/

namespace Sys2Proof.Machine

/-! ### Unexpected codes (R52) -/

/-- Post UNEXPECTED-CODE with the new and the previous code; nothing else changes (R52). -/
def State.unexpected (s : State) (slot : Slot) (prev new : Code) : State :=
  s.post (some slot)
    { s.circuitReport .unexpectedCode slot (s.circuit slot) with detail1 := new.val, detail2 := prev.val }

/-! ### Sending the next forward item (R59) -/

/-- The record after the next forward item is sent: a digit, END-OF-ADDRESS, or DIGIT-WAIT (R59). -/
def State.nextItem (s : State) (slot : Slot) (c : Circuit) : Circuit :=
  let q := c.call.send
  if q.pointer < q.digits.length then
    { c with
      call := { c.call with
        step := some .signalOn
        send := { q with last := .digit q.pointer, pointer := q.pointer + 1 } }
      timer := s.startTimer slot .compel }
  else if q.complete then
    { c with
      call := { c.call with step := some .signalOn, send := { q with last := .endOfAddress } }
      timer := s.startTimer slot .compel }
  else
    { c with
      call := { c.call with step := some .digitWait }
      timer := s.startTimer slot .digit }

/-! ### Requests returned by a circuit (R95) -/

/-- The request a circuit in OUT-SEIZING holds, with its digits and complete flag as they stand in the send queue (R95). -/
def Circuit.boundRequest (c : Circuit) : Option Request :=
  match c.call.owner, c.call.bound with
  | some (.ofHost ix r), some b =>
    some { source := .ofHost ix r, cls := b.cls, category := b.category, digits := c.call.send.digits,
           complete := c.call.send.complete, visited := b.visited, repeatUsed := b.repeatUsed }
  | some (.foreign o t), some b =>
    some { source := .foreign o t, cls := b.cls, category := b.category, digits := c.call.send.digits,
           complete := c.call.send.complete, visited := b.visited, repeatUsed := b.repeatUsed }
  | _, _ => none

/-- Hand a request back to the hunt unit (R95). A LOCAL slot is WAITING again in the same event (R98, R110, log entry 15). -/
def State.handReturn (s : State) (slot : Slot) (reason : ReturnReason) (req : Option Request) : State :=
  match req with
  | none => s
  | some q =>
    let t := s.setEvents { s.events with returned := s.events.returned ++ [{ slot := slot, reason := reason, request := q }] }
    match q.source with
    | .ofHost ix r =>
      if (t.huntSlot ix).holds r then t.putHuntSlot ix { t.huntSlot ix with state := .waiting, circuit := none } else t
    | .foreign _ _ => t

/-! ### OUT-SEIZING (R32, R34, R84, R85, R88) -/

/-- The acknowledgement of a seizure (R32, R108, R140): the owner is told, then the first forward item is sent. -/
def State.acknowledged (s : State) (slot : Slot) : State :=
  let c := s.circuit slot
  let d := s.nextItem slot { c with phase := .outRegister, call := { c.call with bound := none } }
  match c.call.owner with
  | some (.ofHost ix r) =>
    (s.endSlot ix r
      { s.report .huntGranted with circuit := some (s.circuitNumber slot), station := some s.station }).putCircuit slot d
  | some (.foreign origin tag) =>
    ((s.sendFrame { dest := origin, body := .grant tag (s.circuitNumber slot) }).post (some slot)
      { s.circuitReport .foreignSeizure slot d with
        station := some origin, tag := tag.toNat, detail1 := ((c.call.bound.map fun b => b.cls.val).getD 0),
        category := some c.call.category, digits := some c.call.send.digits }).putCircuit slot d
  | some .incoming => s.putCircuit slot d
  | none => s.putCircuit slot d

/-- A receive buffer emptied at an incoming seizure, with the profile's auto-request limit (R35, R72). -/
def State.freshBuffer (s : State) (slot : Slot) : ReceiveBuffer :=
  { ReceiveBuffer.reset with limit := (s.profile slot).autoRequest }

/-- The GLARE report: the owner of the returned request (R85). -/
def State.glareReport (s : State) (slot : Slot) (owner : Option CallOwner) (after : Circuit) : Report :=
  let r := s.circuitReport .glare slot after
  match owner with
  | some (.ofHost ix ref) => { r with detail1 := 1, detail2 := ix.val, reference := some ref }
  | some (.foreign o t) => { r with detail1 := 2, station := some o, tag := t.toNat }
  | some .incoming => r
  | none => r

/-- A dual seizure this end loses: it yields to the far end's seizure (R85). -/
def State.yield (s : State) (slot : Slot) : State :=
  let c := s.circuit slot
  let d : Circuit :=
    { c with
      phase := .inRegister
      call := { c.call with
        owner := some .incoming, step := some .awaitSignal, bound := none, send := SendQueue.reset, category := 0,
        buffer := s.freshBuffer slot }
      timer := s.startTimer slot .compel }
  ((s.post (some slot) (s.glareReport slot c.call.owner d)).putCircuit slot d).handReturn slot .glare c.boundRequest

/-- The far end's block during a seizure (R88). -/
def State.blockedSeizure (s : State) (slot : Slot) : State :=
  let c := s.circuit slot
  let d := { s.idleRecord slot c with remoteBlocked := true }
  ((s.postCircuit .remoteBlock slot d).putCircuit slot d).handReturn slot .blocked c.boundRequest

/-- An accepted code in OUT-SEIZING (R32, R34, R84, R85, R88). -/
def State.outSeizingCode (s : State) (slot : Slot) (prev new : Code) : State :=
  if new = 1 then s.acknowledged slot
  else if new = 12 then (if s.controlled slot then s else s.yield slot)
  else if new = 14 then s.blockedSeizure slot
  else s.unexpected slot prev new

/-! ### IDLE (R35, R36, R92, R93, R153) -/

/-- The local block reasons as a detail: 1 HOST, 2 QUIESCE, 3 both (Table 12-4). -/
def Circuit.reasons (c : Circuit) : Nat := flag c.hostBlock + 2 * flag c.quiesceBlock

/-- A far-end seizure of an IDLE circuit is acted on (R35): held on a FAILED span (R153), not taken with a local block reason
(R92), otherwise taken into IN-REGISTER. -/
def State.incomingSeizure (s : State) (slot : Slot) : State :=
  let c := s.circuit slot
  if s.failed (spanOf slot) then s
  else if c.blocked then s.postCircuit .seizedWhileBlocked slot c c.reasons
  else
    let d : Circuit :=
      { c with
        phase := .inRegister
        call := { c.call with owner := some .incoming, step := some .awaitSignal, buffer := s.freshBuffer slot }
        timer := s.startTimer slot .compel }
    (s.postCircuit .incomingSeizure slot d).putCircuit slot d

/-- The restoration action of the circuit has been handed to it and not yet taken (R155). -/
def State.awaitsRestoration (s : State) (slot : Slot) : Bool :=
  s.events.actions.contains { slot := slot, kind := .restoration }

/-- A 12 that an IDLE circuit accepts, or holds accepted as it enters IDLE: until the restoration action of its span has reached
it, it is held and left to that action (R153, R155; log entry 34 for the entry to IDLE); otherwise it is a seizure. -/
def State.standingSeizure (s : State) (slot : Slot) : State :=
  if s.awaitsRestoration slot then s else s.incomingSeizure slot

/-- A remote block of an IDLE circuit (R93). -/
def State.remoteBlock (s : State) (slot : Slot) : State :=
  let c := s.circuit slot
  if c.remoteBlocked then s
  else (s.postCircuit .remoteBlock slot c).putCircuit slot { c with remoteBlocked := true }

/-- A remote unblock of an IDLE circuit (R93). -/
def State.remoteUnblock (s : State) (slot : Slot) : State :=
  let c := s.circuit slot
  if c.remoteBlocked then (s.postCircuit .remoteUnblock slot c).putCircuit slot { c with remoteBlocked := false }
  else s

/-- An accepted code in IDLE (R35, R36, R93). -/
def State.idleCode (s : State) (slot : Slot) (prev new : Code) : State :=
  if new = 12 then s.standingSeizure slot
  else if new = 14 then s.remoteBlock slot
  else if new = 0 then s.remoteUnblock slot
  else s.unexpected slot prev new

/-- A circuit that has entered IDLE acts on the code it then holds accepted: 12 is a seizure, 14 a remote block, and any other
code leaves it IDLE (R51, R179). -/
def State.actOnAccepted (s : State) (slot : Slot) : State :=
  let a := (s.circuit slot).recog.accepted
  if a = 12 then s.standingSeizure slot
  else if a = 14 then s.remoteBlock slot
  else s

/-! ### OUT-REGISTER (R60 to R64) -/

/-- The address is complete: OUT-AWAIT-ANSWER with ANSWER started and ADDRESS-COMPLETE posted (R63). -/
def State.addressComplete (s : State) (slot : Slot) (pending : Code) : State :=
  let c := s.circuit slot
  let d : Circuit :=
    { c with
      phase := .outAwaitAnswer
      call := { c.call with step := none, send := { c.call.send with request := none } }
      timer := s.startTimer slot .answer }
  (s.postCircuit .addressComplete slot d (flag (pending = 6))).putCircuit slot d

/-- The answer of a call: OUT-ANSWERED, no timer, the answer stamp set, ANSWER posted (R40). -/
def State.answered (s : State) (slot : Slot) : State :=
  let c := s.circuit slot
  let d : Circuit :=
    { c with phase := .outAnswered, call := { c.call with answerStamp := some s.tick }, timer := none }
  (s.postCircuit .answer slot d).putCircuit slot d

/-- PROCEED returns in SIGNAL-OFF: the pending request is acted on and removed (R62). -/
def State.proceedCloses (s : State) (slot : Slot) (pending : Code) : State :=
  let c := s.circuit slot
  let q := { c.call.send with request := none }
  let base : Circuit := { c with call := { c.call with send := q } }
  if pending = 2 then s.putCircuit slot (s.nextItem slot base)
  else if pending = 3 then
    s.putCircuit slot
      { base with call := { base.call with step := some .signalOn }, timer := s.startTimer slot .compel }
  else if pending = 4 then
    s.putCircuit slot (s.nextItem slot { c with call := { c.call with send := { q with pointer := 0 } } })
  else if pending = 5 then
    s.putCircuit slot
      { c with
        call := { c.call with step := some .signalOn, send := { q with last := .category } }
        timer := s.startTimer slot .compel }
  else s.addressComplete slot pending

/-- A response recognized in SIGNAL-ON (R60). -/
def State.responseRecognized (s : State) (slot : Slot) (new : Code) : State :=
  let c := s.circuit slot
  s.putCircuit slot
    { c with
      call := { c.call with step := some .signalOff, send := { c.call.send with request := some new } }
      timer := s.startTimer slot .compel }

/-- An accepted code in OUT-REGISTER (R64). -/
def State.outRegisterCode (s : State) (slot : Slot) (prev new : Code) : State :=
  let c := s.circuit slot
  if new = 8 ∨ new = 9 ∨ new = 10 then s.failForward slot .callFailed new.val
  else
    match c.call.step with
    | some .signalOn =>
      if 2 ≤ new.val ∧ new.val ≤ 7 then s.responseRecognized slot new else s.unexpected slot prev new
    | some .signalOff =>
      match c.call.send.request with
      | some r =>
        if new = 1 then s.proceedCloses slot r
        else if new = 11 ∧ (r = 6 ∨ r = 7) then (s.addressComplete slot r).answered slot
        else s.unexpected slot prev new
      | none => s.unexpected slot prev new
    | some .digitWait => s.unexpected slot prev new
    | some .awaitSignal => s.unexpected slot prev new
    | some .hostWait => s.unexpected slot prev new
    | some .responding => s.unexpected slot prev new
    | none => s.unexpected slot prev new

/-! ### OUT-AWAIT-ANSWER, OUT-ANSWERED, OUT-CLEARED-BACK, OUT-RELEASING (R40 to R44, R48) -/

/-- A clear-back recognized; the unanswered flag is set when the circuit came from OUT-AWAIT-ANSWER (R43). -/
def State.clearedBack (s : State) (slot : Slot) : State :=
  let c := s.circuit slot
  let d : Circuit := { c with phase := .outClearedBack, timer := s.startTimer slot .clearback }
  (s.postCircuit .clearBack slot d (flag (c.phase = .outAwaitAnswer))).putCircuit slot d

/-- An accepted 11 in OUT-CLEARED-BACK: a re-answer, or the first answer when no answer stamp is present (R44). -/
def State.reAnswered (s : State) (slot : Slot) : State :=
  let c := s.circuit slot
  match c.call.answerStamp with
  | some _ =>
    let d : Circuit := { c with phase := .outAnswered, timer := none }
    (s.postCircuit .reAnswer slot d).putCircuit slot d
  | none => s.answered slot

/-- An accepted code in OUT-RELEASING (R48). -/
def State.outReleasingCode (s : State) (slot : Slot) (prev new : Code) : State :=
  let c := s.circuit slot
  if new = 0 then
    let d := s.idleRecord slot c
    (s.postCircuit .released slot d).putCircuit slot d
  else if new = 14 then
    let d := { s.idleRecord slot c with remoteBlocked := true }
    ((s.postCircuit .released slot d).postCircuit .remoteBlock slot d).putCircuit slot d
  else if new = 13 then s
  else s.unexpected slot prev new

/-! ### The incoming end (R50, R73 to R76, R80, R82) -/

/-- The far end's clear-forward in an IN- phase other than IN-GUARD (R50); it also clears the remote-blocked flag (R94). -/
def State.clearForwardReceived (s : State) (slot : Slot) : State :=
  let c := s.circuit slot
  let d : Circuit :=
    { c with
      phase := .inGuard
      call := { c.call with step := none }
      timer := s.startTimer slot .guardTime
      remoteBlocked := false }
  let t := s.postCircuit .clearForward slot d c.phase.code
  (if c.remoteBlocked then t.postCircuit .remoteUnblock slot d else t).putCircuit slot d

/-- The record with a response put on the line: the last response, step RESPONDING, COMPEL (R74, R77, R79). -/
def State.respondRecord (s : State) (slot : Slot) (c : Circuit) (response : Code) : Circuit :=
  { c with
    call := { c.call with
      step := some .responding
      buffer := { c.call.buffer with lastResponse := some response } }
    timer := s.startTimer slot .compel }

/-- The DIGITS report: the whole buffer, the end-received flag and the received category if present (R76). -/
def State.digitsReport (s : State) (slot : Slot) (c : Circuit) : Report :=
  { s.circuitReport .digits slot c with
    detail1 := flag c.call.buffer.endReceived, category := c.call.buffer.category, digits := some c.call.buffer.digits }

/-- Entry to HOST-WAIT with the buffer as given: RESPONSE started, DIGITS posted (R76). -/
def State.enterHostWait (s : State) (slot : Slot) (buffer : ReceiveBuffer) : State :=
  let c := s.circuit slot
  let d : Circuit :=
    { c with
      call := { c.call with step := some .hostWait, buffer := buffer }
      timer := s.startTimer slot .response }
  (s.post (some slot) (s.digitsReport slot d)).putCircuit slot d

/-- A digit read in AWAIT-SIGNAL (R74). -/
def State.digitReceived (s : State) (slot : Slot) (d : Digit) : State :=
  let c := s.circuit slot
  let b := c.call.buffer
  if Config.maxDigits ≤ b.digits.length then
    let e := s.respondRecord slot c 9
    (s.postCircuit .receiveOverflow slot e).putCircuit slot e
  else
    let b' := { b with digits := b.digits ++ [d] }
    if b'.digits.length ≤ b.limit then
      s.putCircuit slot (s.respondRecord slot { c with call := { c.call with buffer := b' } } 2)
    else s.enterHostWait slot b'

/-- An accepted code in AWAIT-SIGNAL other than 0 (R73, R75). -/
def State.awaitSignalCode (s : State) (slot : Slot) (prev new : Code) : State :=
  let b := (s.circuit slot).call.buffer
  if 1 ≤ new.val ∧ new.val ≤ 4 ∧ b.lastResponse = some 5 then
    s.enterHostWait slot { b with category := some (codeCategory new) }
  else if 1 ≤ new.val ∧ new.val ≤ 10 then s.digitReceived slot (codeDigit new)
  else if new = 11 then s.enterHostWait slot { b with endReceived := true }
  else if new = 12 then s
  else s.unexpected slot prev new

/-- An accepted 12 in RESPONDING closes the cycle by the response in force (R38, R80). -/
def State.cycleCloses (s : State) (slot : Slot) (prev : Code) : State :=
  let c := s.circuit slot
  match c.call.buffer.lastResponse with
  | some r =>
    if 2 ≤ r.val ∧ r.val ≤ 5 then
      s.putCircuit slot
        { c with call := { c.call with step := some .awaitSignal }, timer := s.startTimer slot .compel }
    else if r = 6 ∨ r = 7 then
      if c.call.answerPending then
        s.putCircuit slot
          { c with phase := .inAnswered, call := { c.call with step := none, answerPending := false }, timer := none }
      else
        s.putCircuit slot { c with phase := .inAwaitAnswer, call := { c.call with step := none }, timer := none }
    else s.unexpected slot prev 12
  | none => s.unexpected slot prev 12

/-- An accepted code in IN-REGISTER (R50, R73, R76, R80). -/
def State.inRegisterCode (s : State) (slot : Slot) (prev new : Code) : State :=
  if new = 0 then s.clearForwardReceived slot
  else
    match (s.circuit slot).call.step with
    | some .awaitSignal => s.awaitSignalCode slot prev new
    | some .responding => if new = 12 then s.cycleCloses slot prev else s.unexpected slot prev new
    | some .hostWait => s.unexpected slot prev new
    | some .signalOn => s.unexpected slot prev new
    | some .signalOff => s.unexpected slot prev new
    | some .digitWait => s.unexpected slot prev new
    | none => s.unexpected slot prev new

/-! ### RESETTING (R55, R56) -/

/-- A reset completed on the far end's 0 or 14: IDLE with the remote-blocked flag as the code says, RESET-DONE posted
(R55, R56). -/
def State.resetDone (s : State) (slot : Slot) (remote : Bool) : State :=
  let d := { s.idleRecord slot (s.circuit slot) with remoteBlocked := remote }
  (s.postCircuit .resetDone slot d (flag remote)).putCircuit slot d

/-! ### The change event (R19, R20, Table 3-4) -/

/-- The accepted code of a circuit has changed from `prev` to `new`: the rule of its phase and step acts (R19). -/
def State.codeChanged (s : State) (slot : Slot) (prev new : Code) : State :=
  match (s.circuit slot).phase with
  | .unequipped => s
  | .restarting => s
  | .lockout => s
  | .idle => s.idleCode slot prev new
  | .outSeizing => s.outSeizingCode slot prev new
  | .outRegister => s.outRegisterCode slot prev new
  | .outAwaitAnswer =>
    if new = 11 then s.answered slot else if new = 12 then s.clearedBack slot else s.unexpected slot prev new
  | .outAnswered => if new = 12 then s.clearedBack slot else s.unexpected slot prev new
  | .outClearedBack => if new = 11 then s.reAnswered slot else s.unexpected slot prev new
  | .outReleasing => s.outReleasingCode slot prev new
  | .inRegister => s.inRegisterCode slot prev new
  | .inAwaitAnswer => if new = 0 then s.clearForwardReceived slot else s.unexpected slot prev new
  | .inAnswered => if new = 0 then s.clearForwardReceived slot else s.unexpected slot prev new
  | .inClearedBack => if new = 0 then s.clearForwardReceived slot else s.unexpected slot prev new
  | .inFailed => if new = 0 then s.clearForwardReceived slot else s.unexpected slot prev new
  | .inGuard => if new = 0 ∨ new = 12 ∨ new = 14 then s else s.unexpected slot prev new
  | .resetting =>
    if new = 0 then s.resetDone slot false
    else if new = 14 then s.resetDone slot true
    else s.unexpected slot prev new

end Sys2Proof.Machine
end

