-- ==== Sys2Proof/Machine/Recognizer.lean ====
section
/-! DEFINITION. The recognizer (chapter 2) and the command SAMPLE. -/

namespace Sys2Proof.Machine

/-- One step of a recognizer on a sample that is not discarded: the new fields, and whether the candidate was accepted
(R17, R18). -/
def Recognizer.next (p : Profile) (phase : Phase) (r : Recognizer) (x : Code) : Recognizer × Bool :=
  if x = r.accepted then ({ r with count := r.count - 2 }, false)
  else if x = r.candidate then
    if threshold p phase r.candidate ≤ r.count + 1 then
      ({ accepted := r.candidate, candidate := r.candidate, count := 0 }, true)
    else ({ r with count := r.count + 1 }, false)
  else ({ r with candidate := x, count := 1 }, false)

/-- The recognizer re-seeded: the candidate becomes the accepted code and the count 0 (R22). -/
def Recognizer.reseed (r : Recognizer) : Recognizer := { r with candidate := r.accepted, count := 0 }

/-- A sample with its valid bit reaches the recognizer of a slot (R16 to R19): discarded when invalid, otherwise stepped; an
accepted change is taken by the circuit engine in the same event. -/
def State.takeSample (s : State) (slot : Slot) (code : Option Code) (valid : Bool) : State :=
  match code, valid with
  | some x, true =>
    let c := s.circuit slot
    let (r, accepted) := c.recog.next (s.profile slot) c.phase x
    let t := s.writeCircuit slot { c with recog := r }
    if accepted then (t.codeChanged slot c.recog.accepted r.accepted).settle slot c else t
  | some _, false => s
  | none, _ => s

/-- SAMPLE (R17): the oldest sample handed to the slot's recognizer is taken; with none handed over, no event. -/
def execSample (slot : Slot) (s : State) : Host.Outcome State Fault Refusal :=
  whenReleased s fun s =>
    match s.events.samples.find? (fun e => e.slot = slot) with
    | none => s
    | some e =>
      (s.setEvents { s.events with samples := s.events.samples.eraseP (fun e => e.slot = slot) }).takeSample
        slot e.code e.valid

end Sys2Proof.Machine
end

