-- ==== Sys2Proof/Machine/Expiry.lean ====
section
/-! DEFINITION. Ticks (R9) and the expiries of the circuit timers (chapters 3, 4 and 11). A timer's expiry is taken when its
remaining count is 0 and it is not paused; otherwise the command is no event (R9, log entry 2). -/

namespace Sys2Proof.Machine

/-- One tick boundary at a circuit timer: a paused timer keeps its count (R9, R10). -/
def CircuitTimer.tick (t : CircuitTimer) : CircuitTimer :=
  if t.paused then t else { t with remaining := t.remaining - 1 }

/-- TICK_BOUNDARY (R9, R12): the tick counter advances and every running timer that is not paused loses one tick. -/
def execTickBoundary (s : State) : Host.Outcome State Fault Refusal :=
  whenReleased s fun s =>
    ((((s.setTick (s.tick + 1)).setCircuits
      (Vector.ofFn fun x => { s.circuit x with timer := (s.circuit x).timer.map CircuitTimer.tick })).setSpans
      (Vector.ofFn fun sp => { s.span sp with holdTimer := countDown (s.span sp).holdTimer })).setOffers
      { s.offers with table := s.offers.table.map fun e => { e with timer := e.timer - 1 } }).setBus
      { s.bus with announce := countDown s.bus.announce }

/-- The expiry of a circuit timer: the expired timer is removed before the rule acts (R9); the event's notifications follow. -/
def State.expiry (s : State) (slot : Slot) (p : Purpose) (ok : Circuit → Bool) (rule : State → State) : State :=
  let c := s.circuit slot
  if c.due p && ok c then (rule (s.writeCircuit slot { c with timer := none })).settle slot c else s

/-- ACK_EXPIRY (R33): LOCKOUT with NO-ACK; the request returns. -/
def execAckExpiry (slot : Slot) (s : State) : Host.Outcome State Fault Refusal :=
  whenReleased s fun s =>
    s.expiry slot .ack (fun c => c.phase = .outSeizing) fun s =>
      let c := s.circuit slot
      let d := lockoutRecord c
      ((s.postCircuit .lockout slot d lockoutNoAck).putCircuit slot d).handReturn slot .noAck c.boundRequest

/-- COMPEL_EXPIRY_OUTGOING (R65). -/
def execCompelExpiryOutgoing (slot : Slot) (s : State) : Host.Outcome State Fault Refusal :=
  whenReleased s fun s =>
    s.expiry slot .compel
      (fun c => c.phase = .outRegister && (c.call.step = some .signalOn || c.call.step = some .signalOff)) fun s =>
        s.failForward slot .registerTimeout (stepCode (s.circuit slot).call.step)

/-- COMPEL_EXPIRY_INCOMING (R81): IN-FAILED sending the failure code, RELEASE started. -/
def execCompelExpiryIncoming (slot : Slot) (s : State) : Host.Outcome State Fault Refusal :=
  whenReleased s fun s =>
    s.expiry slot .compel
      (fun c => c.phase = .inRegister && (c.call.step = some .awaitSignal || c.call.step = some .responding)) fun s =>
        let c := s.circuit slot
        let d : Circuit :=
          { c with phase := .inFailed, call := { c.call with step := none }, timer := s.startTimer slot .release }
        (s.postCircuit .registerTimeout slot d (stepCode c.call.step)).putCircuit slot d

/-- DIGIT_TIMEOUT (R69). -/
def execDigitTimeout (slot : Slot) (s : State) : Host.Outcome State Fault Refusal :=
  whenReleased s fun s =>
    s.expiry slot .digit (fun c => c.phase = .outRegister && c.call.step = some .digitWait) fun s =>
      s.failForward slot .digitTimeout (s.circuit slot).call.send.digits.length

/-- RESPONSE_TIMEOUT (R79): CONGESTION as the part's own response. -/
def execResponseTimeout (slot : Slot) (s : State) : Host.Outcome State Fault Refusal :=
  whenReleased s fun s =>
    s.expiry slot .response (fun c => c.phase = .inRegister && c.call.step = some .hostWait) fun s =>
      let d := s.respondRecord slot (s.circuit slot) 9
      (s.postCircuit .responseTimeout slot d).putCircuit slot d

/-- NO_ANSWER (R45). -/
def execNoAnswer (slot : Slot) (s : State) : Host.Outcome State Fault Refusal :=
  whenReleased s fun s =>
    s.expiry slot .answer (fun c => c.phase = .outAwaitAnswer) fun s => s.failForward slot .noAnswer 0

/-- FORCED_RELEASE (R45). -/
def execForcedRelease (slot : Slot) (s : State) : Host.Outcome State Fault Refusal :=
  whenReleased s fun s =>
    s.expiry slot .clearback (fun c => c.phase = .outClearedBack) fun s => s.failForward slot .forcedRelease 0

/-- RELEASE_EXPIRY_RELEASING (R49): IDLE with RELEASED on an accepted 0, otherwise LOCKOUT with NO-RELEASE. -/
def execReleaseExpiryReleasing (slot : Slot) (s : State) : Host.Outcome State Fault Refusal :=
  whenReleased s fun s =>
    s.expiry slot .release (fun c => c.phase = .outReleasing) fun s =>
      let c := s.circuit slot
      if c.recog.accepted = 0 then
        let d := s.idleRecord slot c
        (s.postCircuit .released slot d).putCircuit slot d
      else
        let d := lockoutRecord c
        (s.postCircuit .lockout slot d lockoutNoRelease).putCircuit slot d

/-- RELEASE_EXPIRY_RESETTING (R56): the reset completes on a standing 0 or 14, otherwise LOCKOUT with RESET-FAILED. -/
def execReleaseExpiryResetting (slot : Slot) (s : State) : Host.Outcome State Fault Refusal :=
  whenReleased s fun s =>
    s.expiry slot .release (fun c => c.phase = .resetting) fun s =>
      let c := s.circuit slot
      if c.recog.accepted = 0 then s.resetDone slot false
      else if c.recog.accepted = 14 then s.resetDone slot true
      else
        let d := lockoutRecord c
        (s.postCircuit .resetFailed slot d c.recog.accepted.val).putCircuit slot d

/-- NO_CLEAR_FORWARD (R82): RESETTING with RELEASE anew. -/
def execNoClearForward (slot : Slot) (s : State) : Host.Outcome State Fault Refusal :=
  whenReleased s fun s =>
    s.expiry slot .release (fun c => c.phase = .inFailed) fun s =>
      let c := s.circuit slot
      let d := s.resettingRecord slot c
      (s.postCircuit .noClearForward slot d c.recog.accepted.val).putCircuit slot d

/-- GUARD_EXPIRY (R51): IDLE, then the standing accepted code is acted on. -/
def execGuardExpiry (slot : Slot) (s : State) : Host.Outcome State Fault Refusal :=
  whenReleased s fun s =>
    s.expiry slot .guardTime (fun c => c.phase = .inGuard) fun s =>
      (s.putCircuit slot (s.idleRecord slot (s.circuit slot))).actOnAccepted slot

/-- The restarting count falls by 1; at 0 the part is in RUN and RESTART-DONE is queued with the number of equipped circuits
(R179). -/
def State.oneRestarted (s : State) : State :=
  let t := s.setRestarting (s.restarting - 1)
  if s.restarting - 1 = 0 then
    (t.setPartPhase .run).post none { t.report .restartDone with detail1 := t.equippedCount }
  else t

/-- RESTART_EXPIRY (R179): IDLE, the accepted code acted on, the restarting count lowered. -/
def execRestartExpiry (slot : Slot) (s : State) : Host.Outcome State Fault Refusal :=
  whenReleased s fun s =>
    let c := s.circuit slot
    if c.due .restart && c.phase = .restarting then
      (s.expiry slot .restart (fun c => c.phase = .restarting) fun s =>
        (s.putCircuit slot (s.idleRecord slot (s.circuit slot))).actOnAccepted slot).oneRestarted
    else s

end Sys2Proof.Machine
end

