-- ==== Sys2Proof/Machine/Span.lean ====
section
/-! DEFINITION. The span supervisor (chapter 9): valid bits, failure, restoration, call loss, quiesce and resume. -/

namespace Sys2Proof.Machine

/-! ### Handing actions to circuits (R150, R154, R155) -/

/-- Hand an action to each circuit of a span. -/
def State.handActions (s : State) (sp : SpanIx) (k : ActionKind) : State :=
  s.setEvents { s.events with actions := s.events.actions ++ (slotsOf sp).map fun x => { slot := x, kind := k } }

/-- The oldest span action handed to a circuit and not yet taken. -/
def State.nextAction (s : State) (slot : Slot) : Option ActionKind :=
  (s.events.actions.find? fun a => a.slot = slot).map SpanAction.kind

/-- The state once a circuit's oldest span action has been taken. -/
def State.actionTaken (s : State) (slot : Slot) : State :=
  s.setEvents { s.events with actions := s.events.actions.eraseP fun a => a.slot = slot }

/-- A circuit takes its oldest span action by `rule` if it is of this kind. The actions of one circuit reach it in the order in
which they were handed to it, so that an expiry of the hold timer taken before the restoration loses the held call (R159); those
of two circuits have no order (log entry 1). -/
def State.takeAction (s : State) (slot : Slot) (k : ActionKind) (rule : State → State) : State :=
  if s.nextAction slot = some k then rule (s.actionTaken slot) else s

/-! ### Failure and restoration of a span (R148, R150, R155) -/

/-- A span fails (R150): FAILED, its report, the hunt unit notified, the hold timer under HOLD, a failure action for each
circuit of the span. -/
def State.failSpan (s : State) (sp : SpanIx) : State :=
  let p := s.spanProfile sp
  let g := s.span sp
  let t := s.putSpan sp
    { g with condition := .failed, run := 0, holdTimer := if p.policy = .hold then some p.holdTime else g.holdTimer }
  let u := ((t.postSpan .spanFailed sp).recount)
  u.handActions sp .failure

/-- A span is restored (R155): IN-SERVICE, the hold timer stopped, its report, the hunt unit notified, a restoration action for
each circuit of the span. -/
def State.restoreSpan (s : State) (sp : SpanIx) : State :=
  let g := s.span sp
  let t := s.putSpan sp { g with condition := .inService, run := 0, holdTimer := none }
  let u := ((t.postSpan .spanRestored sp).recount)
  u.handActions sp .restoration

/-- One valid bit steps a span's run counter (R148). -/
def State.takeValidBit (s : State) (sp : SpanIx) (valid : Bool) : State :=
  let g := s.span sp
  match g.condition, valid with
  | .inService, true => s.putSpan sp { g with run := 0 }
  | .inService, false =>
    if Config.failureRun ≤ g.run + 1 then s.failSpan sp else s.putSpan sp { g with run := g.run + 1 }
  | .failed, false => s.putSpan sp { g with run := 0 }
  | .failed, true =>
    if Config.restorationRun ≤ g.run + 1 then s.restoreSpan sp else s.putSpan sp { g with run := g.run + 1 }

/-- SPAN_VALID_BIT (R148): the oldest valid bit handed over for the span is taken. -/
def execSpanValidBit (span : SpanIx) (s : State) : Host.Outcome State Fault Refusal :=
  whenReleased s fun s =>
    match s.events.validBits.find? (fun e => e.span = span) with
    | none => s
    | some e =>
      (s.setEvents { s.events with validBits := s.events.validBits.eraseP (fun e => e.span = span) }).takeValidBit
        span e.valid

/-! ### Actions at one circuit (R150, R151, R154, R155) -/

/-- A call is lost on a failed span (R154): CALL-LOST, then HUNT-CANCELLED for a LOCAL seizure, the call fields reset, RESETTING
with RELEASE started paused. -/
def State.loseCall (s : State) (slot : Slot) : State :=
  let c := s.circuit slot
  let d := { s.resettingRecord slot c with timer := pauseTimer true (s.startTimer slot .release) }
  ((s.postCircuit .callLost slot d c.phase.code).dropBound slot cancelledByCallLoss).putCircuit slot d

/-- The failure action at one circuit, by the phase it then holds and the policy (R150, R151). -/
def State.failureAction (s : State) (slot : Slot) : State :=
  let c := s.circuit slot
  if c.phase.isCall then
    match (s.profile slot).policy with
    | .hold => s.putCircuit slot { c with call := { c.call with held := true }, timer := pauseTimer true c.timer }
    | .default => s.loseCall slot
  else if c.phase = .resetting then s.putCircuit slot { c with timer := pauseTimer true c.timer }
  else if c.phase = .idle then s.putCircuit slot c
  else s

/-- SPAN_FAILURE_ACTION (R150, R151): the failure action handed to the circuit is taken. -/
def execSpanFailureAction (slot : Slot) (s : State) : Host.Outcome State Fault Refusal :=
  whenReleased s fun s => s.takeAction slot .failure fun s => s.failureAction slot

/-- The restoration action at one circuit (R22, R155). DESIGN CHOICE: a blocked IDLE circuit whose standing 12 was reported before the
span failed posts SEIZED-WHILE-BLOCKED again (log entry 40). -/
def State.restoreCircuit (s : State) (slot : Slot) : State :=
  let c := s.circuit slot
  let d : Circuit :=
    { c with recog := c.recog.reseed, call := { c.call with held := false }, timer := pauseTimer false c.timer }
  let t := s.putCircuit slot d
  if c.phase = .idle ∧ c.recog.accepted = 12 then (t.incomingSeizure slot).settle slot c else t

/-- RESTORATION_ACTION (R155): the restoration action handed to the circuit is taken. -/
def execRestorationAction (slot : Slot) (s : State) : Host.Outcome State Fault Refusal :=
  whenReleased s fun s => s.takeAction slot .restoration fun s => s.restoreCircuit slot

/-- The call-loss action at one circuit: a held circuit, or under DEFAULT a circuit in a call phase, loses its call; any other
ignores it (R154). -/
def State.callLoss (s : State) (slot : Slot) : State :=
  let c := s.circuit slot
  if c.phase.isCall && (c.call.held || (s.profile slot).policy = .default) then s.loseCall slot else s

/-- CALL_LOSS_ACTION (R154): the call-loss action handed to the circuit is taken. -/
def execCallLossAction (slot : Slot) (s : State) : Host.Outcome State Fault Refusal :=
  whenReleased s fun s => s.takeAction slot .callLoss fun s => s.callLoss slot

/-- HOLD_TIME_EXPIRY (R154): the span's expired hold timer is removed and a call-loss action is handed to every circuit of the
span. -/
def execHoldTimeExpiry (span : SpanIx) (s : State) : Host.Outcome State Fault Refusal :=
  whenReleased s fun s =>
    if (s.span span).holdTimer = some 0 then
      let t := s.putSpan span { s.span span with holdTimer := none }
      t.handActions span .callLoss
    else s

/-! ### Quiesce and resume (R156 to R158) -/

/-- Rewrite the records that a test selects, each with its send code from the sending table in the same event (R7). -/
def State.rewrite (s : State) (sel : Slot → Bool) (f : Circuit → Circuit) : State :=
  s.setCircuits (Vector.ofFn fun x =>
    let c := s.circuit x
    if sel x then { f c with sendCode := s.sendingCode x (f c) } else c)

/-- The effect of QUIESCE-SPAN (R156). -/
def State.quiesceSpan (s : State) (sp : SpanIx) : State :=
  if (s.span sp).quiesce = .none then
    let t := s.putSpan sp { s.span sp with quiesce := .quiescing }
    let u := t.rewrite (fun x => spanOf x = sp && t.equipped x && (t.circuit x).phase = .idle)
      (fun c => { c with quiesceBlock := true })
    u.recount.quiesceTest sp
  else s

/-- A standing 12 of an IDLE circuit whose reasons the resume has emptied is taken (R91, R158). -/
def State.takeStanding (before : State) (s : State) (x : Slot) : State :=
  let c := before.circuit x
  if before.equipped x && c.phase = .idle && c.quiesceBlock && !c.hostBlock && c.recog.accepted = 12 then s.incomingSeizure x
  else s

/-- The effect of RESUME-SPAN (R158); one recount for the span's circuits (log entry 41). -/
def State.resumeSpan (s : State) (sp : SpanIx) : State :=
  if (s.span sp).quiesce = .none then s
  else
    let t := s.putSpan sp { s.span sp with quiesce := .none }
    let u := t.rewrite (fun x => spanOf x = sp && t.equipped x && (t.circuit x).quiesceBlock)
      (fun c => { c with quiesceBlock := false })
    ((slotsOf sp).foldl (State.takeStanding s) u).recount

end Sys2Proof.Machine
end

