-- ==== Sys2Proof/Machine/Offer.lean ====
section
/-! DEFINITION. The offer unit (chapter 8): opening, declining and re-routing offers, and the frames and outcomes it takes. -/

namespace Sys2Proof.Machine

/-! ### Candidates and tags (R131, R133) -/

/-- The k-th station after this one in ring order (R133). -/
def State.ringStation (s : State) (k : Nat) : Station := ⟨((s.station.val + k) % s.ring) % 8, Nat.mod_lt _ (by decide)⟩

/-- A station may be the candidate of an offer (R133). -/
def State.isCandidate (s : State) (origin : Station) (visited : StationSet) (cls : CallClass) (st : Station) : Bool :=
  !visited.getLsbD st.val && st ≠ origin &&
    (match s.bus.view[st] with
     | some r => r.present && (match r.level with | some l => decide (cls ≤ l) | none => false)
     | none => false)

/-- The candidate for an offer: the first in ring order from the next station on (R133). -/
def State.candidate (s : State) (origin : Station) (visited : StationSet) (cls : CallClass) : Option Station :=
  ((List.range (s.ring - 1)).map fun k => s.ringStation (k + 1)).find? (s.isCandidate origin visited cls)

/-- A live entry holds the tag (R130). -/
def Offers.live (o : Offers) (tag : Tag) : Option OfferEntry := o.table.find? (fun e => e.tag = tag)

/-- The tag of a new entry: the first value from the tag counter on that no live entry holds (R131). -/
def Offers.newTag (o : Offers) : Tag :=
  (((List.range 256).map fun k => o.tagCounter + BitVec.ofNat 8 k).find? (fun t => (o.live t).isNone)).getD o.tagCounter

/-! ### Opening an offer (R132) -/

/-- HUNT-CONGESTION with its reason (R132, R135, R141). -/
def State.congestionReport (s : State) (reason : Nat) : Report := { s.report .huntCongestion with detail1 := reason }

/-- The OFFER frame of an entry for its current target (R132, R135). -/
def State.offerFrame (s : State) (e : OfferEntry) : Directed :=
  { dest := e.target
    body := .offer
      { origin := s.station, tag := e.tag, cls := e.cls, category := e.category, digits := e.digits, complete := e.complete,
        visited := e.visited } }

/-- The offer table with another entry and the tag counter after it (R131, R132). -/
def State.addEntry (s : State) (e : OfferEntry) : State :=
  s.setOffers { table := s.offers.table ++ [e], tagCounter := e.tag + 1 }

/-- Open an offer for a LOCAL request that was not admitted; the slot becomes OFFERED, or ends with HUNT-CONGESTION (R132). -/
def State.openOffer (s : State) (ix : HuntIx) (r : Reference) (q : Request) : State :=
  let t := if (s.huntSlot ix).holds r then s.putHuntSlot ix { s.huntSlot ix with state := .offered, circuit := none } else s
  if Config.offerTableLimit ≤ t.offers.table.length then t.endSlot ix r (t.congestionReport congestionTableFull)
  else if t.ring ≤ 1 then t.endSlot ix r (t.congestionReport congestionNoCandidate)
  else
    match t.candidate t.station q.visited q.cls with
    | none => t.endSlot ix r (t.congestionReport congestionNoCandidate)
    | some target =>
      let e : OfferEntry :=
        { tag := t.offers.newTag, slot := ix, reference := r, cls := q.cls, category := q.category, digits := q.digits,
          complete := q.complete, visited := q.visited, target := target, timer := t.settings.station.offerTime,
          pending := true }
      (t.addEntry e).sendFrame (t.offerFrame e)

/-! ### Declining and forwarding (R138, R139) -/

/-- Send an offer on: to a candidate of this station's own view, or EXHAUSTED to the origin when there is none
(R138, R139). -/
def State.sendOn (s : State) (o : OfferBody) : State :=
  match s.candidate o.origin o.visited o.cls with
  | some st => s.sendFrame { dest := st, body := .offer o }
  | none => s.sendFrame { dest := o.origin, body := .exhausted o.tag }

/-- Decline an offer: this station joins the visited set, then the offer is sent on (R138). -/
def State.decline (s : State) (o : OfferBody) : State :=
  s.sendOn { o with visited := addStation o.visited s.station }

/-- The offer a FOREIGN request stands for (R100, R138). -/
def Request.offer (q : Request) (origin : Station) (tag : Tag) : OfferBody :=
  { origin := origin, tag := tag, cls := q.cls, category := q.category, digits := q.digits, complete := q.complete,
    visited := q.visited }

/-! ### Freeing an entry (R136) -/

/-- The frame is the origin's OFFER of this tag. -/
def State.ownOffer (s : State) (tag : Tag) (f : Directed) : Bool :=
  match f.body with
  | .offer o => o.origin = s.station && o.tag = tag
  | .grant _ _ => false
  | .exhausted _ => false
  | .withdraw _ _ => false

/-- What becomes of a queued frame when its offer is freed: a waiting one leaves the queue, one being sent is completed without
an outcome (R136). -/
def State.dropFrame (s : State) (tag : Tag) (q : Queued) : Option Queued :=
  if s.ownOffer tag q.frame then (if q.sending then some { q with dropped := true } else none) else some q

/-- Free an entry: it leaves the table; with delivery pending its OFFER frame is dropped (R136). -/
def State.freeEntry (s : State) (e : OfferEntry) : State :=
  let t := s.setOffers { s.offers with table := s.offers.table.filter fun x => x.tag ≠ e.tag }
  if e.pending then t.setBus { t.bus with queue := t.bus.queue.filterMap (t.dropFrame e.tag) } else t

/-- End an entry: its slot has its outcome and the entry is freed (R136). -/
def State.endEntry (s : State) (e : OfferEntry) (rep : Report) : State :=
  (s.endSlot e.slot e.reference rep).freeEntry e

/-! ### Expiry and answers at the origin (R137, R141) -/

/-- OFFER_TIME_EXPIRY (R137). -/
def execOfferTimeExpiry (tag : Tag) (s : State) : Host.Outcome State Fault Refusal :=
  whenReleased s fun s =>
    match s.offers.live tag with
    | some e =>
      if e.timer = 0 then s.endEntry e { s.report .huntTimeout with detail1 := e.target.val } else s
    | none => s

/-- An EXHAUSTED for a tag: it ends its live entry with HUNT-CONGESTION, or is ignored (R141). -/
def State.takeExhausted (s : State) (tag : Tag) : State :=
  match s.offers.live tag with
  | some e => s.endEntry e (s.congestionReport congestionExhausted)
  | none => s

/-- The oldest frame passed to the offer unit is taken by `f` if it is of the kind `f` takes; frames are taken in the order in
which they ended on the line (R125). -/
def State.takeArrived (s : State) (f : State → ArrivedFrame → Option State) : State :=
  match s.events.arrived with
  | [] => s
  | a :: rest => (f (s.setEvents { s.events with arrived := rest }) a).getD s

/-- GRANT_RECEIVED (R141): HUNT-GRANTED with the acceptor and its circuit, or WITHDRAW for a late grant. -/
def execGrantReceived (s : State) : Host.Outcome State Fault Refusal :=
  whenReleased s fun s =>
    s.takeArrived fun s a =>
      match a.body with
      | .grant tag n =>
        match s.offers.live tag with
        | some e => some (s.endEntry e { s.report .huntGranted with circuit := some n, station := some a.source })
        | none => some (s.sendFrame { dest := a.source, body := .withdraw tag n })
      | .offer _ => none
      | .exhausted _ => none
      | .withdraw _ _ => none

/-- EXHAUSTED_RECEIVED (R141). -/
def execExhaustedReceived (s : State) : Host.Outcome State Fault Refusal :=
  whenReleased s fun s =>
    s.takeArrived fun s a =>
      match a.body with
      | .exhausted tag => some (s.takeExhausted tag)
      | .offer _ => none
      | .grant _ _ => none
      | .withdraw _ _ => none

/-! ### At a receiving station (R138, R142) -/

/-- The tests of R138 on a received OFFER, in order. -/
def State.takeOffer (s : State) (o : OfferBody) : State :=
  if s.ring ≤ o.origin.val then s
  else if o.origin = s.station then s.takeExhausted o.tag
  else if o.visited.getLsbD s.station.val then s.sendFrame { dest := o.origin, body := .exhausted o.tag }
  else if Config.huntQueueLimit ≤ s.hunt.queue.length then s.decline o
  else
    s.setHunt { s.hunt with
      queue := s.hunt.queue ++
        [{ source := .foreign o.origin o.tag, cls := o.cls, category := o.category, digits := o.digits,
           complete := o.complete, visited := o.visited, repeatUsed := false }] }

/-- OFFER_RECEIVED (R138). -/
def execOfferReceived (s : State) : Host.Outcome State Fault Refusal :=
  whenReleased s fun s =>
    s.takeArrived fun s a =>
      match a.body with
      | .offer o => some (s.takeOffer o)
      | .grant _ _ => none
      | .exhausted _ => none
      | .withdraw _ _ => none

/-- The circuit carries the foreign call of this origin and tag, in an OUT- phase other than OUT-RELEASING (R140, R142). -/
def Circuit.carries (c : Circuit) (origin : Station) (tag : Tag) : Bool :=
  c.call.owner = some (.foreign origin tag) && c.phase.isOut && c.phase ≠ .outReleasing

/-- A foreign call is withdrawn: it clears forward, then WITHDRAWN is posted with the cause (R140, R142). -/
def State.withdrawCall (s : State) (n : Nat) (origin : Station) (tag : Tag) (cause : Nat) : State :=
  match s.locate n with
  | some slot =>
    if (s.circuit slot).carries origin tag then
      let t := s.clearForward slot cancelledByClearForward
      t.post (some slot)
        { t.circuitReport .withdrawn slot (t.circuit slot) with
          detail1 := cause, station := some origin, tag := tag.toNat }
    else s
  | none => s

/-- WITHDRAW_RECEIVED (R142). -/
def execWithdrawReceived (s : State) : Host.Outcome State Fault Refusal :=
  whenReleased s fun s =>
    s.takeArrived fun s a =>
      match a.body with
      | .withdraw tag n => some (s.withdrawCall n a.source tag withdrawnByWithdraw)
      | .offer _ => none
      | .grant _ _ => none
      | .exhausted _ => none

/-! ### Outcomes of frames (R135, R139, R140) -/

/-- The oldest outcome handed to the offer unit is taken by `f` if it is of the kind `f` takes. -/
def State.takeOutcome (s : State) (f : State → FrameOutcome → Option State) : State :=
  match s.events.outcomes with
  | [] => s
  | o :: rest => (f (s.setEvents { s.events with outcomes := rest }) o).getD s

/-- The table with one entry replaced by tag. -/
def State.updateEntry (s : State) (e : OfferEntry) : State :=
  s.setOffers { s.offers with table := s.offers.table.map fun x => if x.tag = e.tag then e else x }

/-- The origin takes the outcome of its OFFER (R135). -/
def State.originOutcome (s : State) (delivered : Bool) (tag : Tag) : State :=
  match s.offers.live tag with
  | some e =>
    if e.pending then
      if delivered then s.updateEntry { e with pending := false }
      else
        let visited := addStation e.visited e.target
        match s.candidate s.station visited e.cls with
        | some target =>
          let e' := { e with visited := visited, target := target, pending := true }
          (s.updateEntry e').sendFrame (s.offerFrame e')
        | none =>
          s.endEntry { e with visited := visited, pending := false } (s.congestionReport congestionUndelivered)
    else s
  | none => s

/-- ORIGIN_OFFER_OUTCOME (R135). -/
def execOriginOfferOutcome (s : State) : Host.Outcome State Fault Refusal :=
  whenReleased s fun s =>
    s.takeOutcome fun s o =>
      match o.frame.body with
      | .offer b => if b.origin = s.station then some (s.originOutcome o.delivered b.tag) else none
      | .grant _ _ => none
      | .exhausted _ => none
      | .withdraw _ _ => none

/-- FORWARDED_OFFER_OUTCOME (R139): on a failed delivery the destination joins the visited set and the offer is sent on. -/
def execForwardedOfferOutcome (s : State) : Host.Outcome State Fault Refusal :=
  whenReleased s fun s =>
    s.takeOutcome fun s o =>
      match o.frame.body with
      | .offer b =>
        if b.origin = s.station then none
        else if o.delivered then some s
        else some (s.sendOn { b with visited := addStation b.visited o.frame.dest })
      | .grant _ _ => none
      | .exhausted _ => none
      | .withdraw _ _ => none

/-- GRANT_OUTCOME (R140): on a failed delivery the matching foreign call is withdrawn. -/
def execGrantOutcome (s : State) : Host.Outcome State Fault Refusal :=
  whenReleased s fun s =>
    s.takeOutcome fun s o =>
      match o.frame.body with
      | .grant tag n =>
        if o.delivered then some s else some (s.withdrawCall n o.frame.dest tag withdrawnUndelivered)
      | .offer _ => none
      | .exhausted _ => none
      | .withdraw _ _ => none

end Sys2Proof.Machine
end

