-- ==== Sys2Proof/Machine/Hunt.lean ====
section
/-! DEFINITION. The hunt unit (chapter 6): dispatch, choice of a circuit, the seize command and its outcome, returned requests, and
the effects of the HUNT and CANCEL orders. -/

namespace Sys2Proof.Machine

/-! ### Choosing a circuit (R105) -/

/-- The slot with the lowest number of a list. -/
def lowest (num : Slot → Nat) : List Slot → Option Slot
  | [] => none
  | x :: rest =>
    match lowest num rest with
    | none => some x
    | some y => if num y < num x then some y else some x

/-- The slot with the highest number of a list. -/
def highest (num : Slot → Nat) : List Slot → Option Slot
  | [] => none
  | x :: rest =>
    match highest num rest with
    | none => some x
    | some y => if num x < num y then some y else some x

/-- The circuit a selection method gives within a group (R105). -/
def State.pick (s : State) (group : List Slot) : Option Slot :=
  match s.settings.station.method with
  | .ascending => lowest s.circuitNumber group
  | .descending => highest s.circuitNumber group
  | .rotating =>
    match s.hunt.rotation with
    | none => lowest s.circuitNumber group
    | some p =>
      match lowest s.circuitNumber (group.filter fun x => p < s.circuitNumber x) with
      | some x => some x
      | none => lowest s.circuitNumber group

/-- The circuit for an admitted request: controlled eligible circuits first (R105). -/
def State.choose (s : State) : Option Slot :=
  let eligible := allSlots.filter s.eligible
  match s.pick (eligible.filter s.controlled) with
  | some x => some x
  | none => s.pick eligible

/-! ### Deciding on a request (R102, R106) -/

/-- A request that is not admitted goes to the offer unit: a LOCAL one to open an offer, a FOREIGN one to be declined (R102). -/
def State.notAdmitted (s : State) (q : Request) : State :=
  match q.source with
  | .ofHost ix r => s.openOffer ix r q
  | .foreign origin tag => s.decline (q.offer origin tag)

/-- Decide on a request with dispatch idle: admitted, it is placed in dispatch with the chosen circuit and its seize command goes
out; otherwise it is handled by its source (R102). With no eligible circuit to choose it is not admitted (log entry 30). -/
def State.decide (s : State) (q : Request) : State :=
  if admits s.settings.station s.hunt.free q.cls then
    match s.choose with
    | some x =>
      s.setHunt { s.hunt with
        dispatch := some { request := q, circuit := x, stage := .inFlight }, rotation := some (s.circuitNumber x) }
    | none => s.notAdmitted q
  else s.notAdmitted q

/-- DISPATCH (R102): with dispatch idle and the queue non-empty the head is decided on. -/
def execDispatch (s : State) : Host.Outcome State Fault Refusal :=
  whenReleased s fun s =>
    match s.hunt.dispatch, s.hunt.queue with
    | none, q :: rest => (s.setHunt { s.hunt with queue := rest }).decide q
    | none, [] => s
    | some _, _ => s

/-! ### The seize command (R31, R106, R111) -/

/-- The owner a request's source gives (R31). -/
def Source.owner : Source → CallOwner
  | .ofHost ix r => .ofHost ix r
  | .foreign o t => .foreign o t

/-- The record of a circuit that takes a seize command (R31). -/
def State.seizedRecord (s : State) (slot : Slot) (c : Circuit) (q : Request) : Circuit :=
  { c with
    phase := .outSeizing
    call := { c.call with
      owner := some q.source.owner
      bound := some { cls := q.cls, category := q.category, repeatUsed := q.repeatUsed, visited := q.visited }
      send := { digits := q.digits, complete := q.complete, pointer := 0, last := .none, request := none }
      category := q.category }
    timer := s.startTimer slot .ack }

/-- The hunt unit's dispatch. -/
def State.setDispatch (s : State) (d : Option Dispatch) : State := s.setHunt { s.hunt with dispatch := d }

/-- The circuit is in OUT-SEIZING with this LOCAL request bound (R110). -/
def Circuit.seizingFor (c : Circuit) (ix : HuntIx) (r : Reference) : Bool :=
  c.phase = .outSeizing && c.call.owner = some (.ofHost ix r)

/-- The slot of the request carries the cancel mark (R111). -/
def State.marked (s : State) (q : Request) : Bool :=
  match q.source with
  | .ofHost ix r => (s.huntSlot ix).holds r && (s.huntSlot ix).cancelMark
  | .foreign _ _ => false

/-- The seize command was taken (R106, R111): dispatch idles; a LOCAL slot becomes SEIZING, or, with the cancel mark, its circuit
clears forward and it ends. A circuit that has left the seizure meanwhile has settled the slot itself (log entry 16). -/
def State.seizeTaken (s : State) (d : Dispatch) : State :=
  let t := s.setDispatch none
  match d.request.source with
  | .foreign _ _ => t
  | .ofHost ix r =>
    if (t.circuit d.circuit).seizingFor ix r && (t.huntSlot ix).holds r then
      if (t.huntSlot ix).cancelMark then t.clearForward d.circuit cancelledByCancel
      else t.putHuntSlot ix { t.huntSlot ix with state := .seizing, circuit := some d.circuit }
    else t

/-- The circuit takes the seize command (R31). -/
def State.takeSeize (s : State) (d : Dispatch) : State :=
  let c := s.circuit d.circuit
  ((s.setDispatch (some { d with stage := .taken })).putCircuit d.circuit (s.seizedRecord d.circuit c d.request)).settle
    d.circuit c

/-- SEIZE_COMMAND (R31): the seize command in flight reaches its circuit, which takes it if it is eligible, or refuses it. With the
cancel mark a taken command is finished in the same event: the circuit sends 12 for no longer than it (R111, log entry 37). -/
def execSeizeCommand (s : State) : Host.Outcome State Fault Refusal :=
  whenReleased s fun s =>
    match s.hunt.dispatch with
    | some d =>
      if d.stage = .inFlight then
        if s.eligible d.circuit then
          let t := s.takeSeize d
          if s.marked d.request then t.seizeTaken d else t
        else s.setDispatch (some { d with stage := .refused })
      else s
    | none => s

/-- The seize command was refused (R106, R111): with the cancel mark the request is discarded and its slot ends; otherwise it is
decided on again at once. DESIGN CHOICE: the circuit that refused may be chosen again if it is eligible by then (log entry 43). -/
def State.seizeRefused (s : State) (d : Dispatch) : State :=
  let t := s.setDispatch none
  if t.marked d.request then
    match d.request.source with
    | .ofHost ix r =>
      (t.putHuntSlot ix { t.huntSlot ix with cancelMark := false }).endSlot ix r (t.cancelledReport cancelledByCancel none)
    | .foreign _ _ => t
  else t.decide d.request

/-- SEIZE_COMMAND_OUTCOME (R106): the taken-or-refused outcome of the seize command. -/
def execSeizeCommandOutcome (s : State) : Host.Outcome State Fault Refusal :=
  whenReleased s fun s =>
    match s.hunt.dispatch with
    | some d =>
      match d.stage with
      | .inFlight => s
      | .taken => s.seizeTaken d
      | .refused => s.seizeRefused d
    | none => s

/-! ### Returned requests (R107) -/

/-- A request returned by a circuit: its repeat at the head of the queue, or its end (R107). A cancel-marked one gets no repeat and
ends with HUNT-CANCELLED (log entry 16). DESIGN CHOICE: that report names the circuit that returned the request (log entry 35). -/
def State.takeReturn (s : State) (e : ReturnEvent) : State :=
  let q := e.request
  if !q.repeatUsed && s.hunt.queue.length < Config.huntQueueLimit && !s.marked q then
    let t := s.setHunt { s.hunt with queue := { q with repeatUsed := true } :: s.hunt.queue }
    match q.source with
    | .ofHost ix r =>
      if (t.huntSlot ix).holds r then t.putHuntSlot ix { t.huntSlot ix with state := .waiting, circuit := none } else t
    | .foreign _ _ => t
  else
    match q.source with
    | .ofHost ix r =>
      if s.marked q then s.endSlot ix r (s.cancelledReport cancelledByCancel (some e.slot))
      else
        s.endSlot ix r
          { s.report .huntFailed with detail1 := e.reason.code, circuit := some (s.circuitNumber e.slot) }
    | .foreign origin tag => s.decline (q.offer origin tag)

/-- REQUEST_RETURN (R107): the oldest request returned by the circuit is taken. -/
def execRequestReturn (slot : Slot) (s : State) : Host.Outcome State Fault Refusal :=
  whenReleased s fun s =>
    match s.events.returned.find? (fun e => e.slot = slot) with
    | none => s
    | some e =>
      (s.setEvents { s.events with returned := s.events.returned.eraseP (fun e => e.slot = slot) }).takeReturn e

/-! ### The HUNT and CANCEL orders (R99, R110) -/

/-- A hunt slot is occupied (R98). -/
def HuntSlot.occupied (h : HuntSlot) : Bool := h.state ≠ .free

/-- The occupied slot that holds a reference, in any state including ENDED (R99). -/
def State.slotHolding (s : State) (r : Reference) : Option HuntIx :=
  (List.finRange 16).find? fun ix => (s.huntSlot ix).occupied && (s.huntSlot ix).reference = some r

/-- The lowest-numbered FREE slot (R99). -/
def State.freeSlot (s : State) : Option HuntIx :=
  (List.finRange 16).find? fun ix => !(s.huntSlot ix).occupied

/-- The number of occupied slots (R166). -/
def State.occupiedCount (s : State) : Nat := (List.finRange 16).countP fun ix => (s.huntSlot ix).occupied

/-- The fields of HUNT (R99). -/
structure HuntFields where
  reference : Reference
  cls : CallClass
  category : Category
  complete : Bool
  digits : List Digit
deriving DecidableEq, Repr

/-- The effect of HUNT (R99): the three tests in order, then the lowest FREE slot and a LOCAL request at the tail of the queue. -/
def State.huntOrder (s : State) (f : HuntFields) : State :=
  match s.slotHolding f.reference with
  | some _ => s.reply .inUse (.reference f.reference)
  | none =>
    match s.freeSlot with
    | none => s.reply .noSlot (.reference f.reference)
    | some ix =>
      if Config.huntQueueLimit ≤ s.hunt.queue.length then s.reply .queueFull (.reference f.reference)
      else
        let t := s.putHuntSlot ix
          { state := .waiting, reference := some f.reference, circuit := none, cancelMark := false }
        (t.setHunt { t.hunt with
          queue := t.hunt.queue ++
            [{ source := .ofHost ix f.reference, cls := f.cls, category := f.category, digits := f.digits,
               complete := f.complete, visited := addStation 0 s.station, repeatUsed := false }] }).reply
          .done (.huntSlot ix)

/-- The request is the one of this slot and reference. -/
def Request.isOf (q : Request) (ix : HuntIx) (r : Reference) : Bool := q.source = .ofHost ix r

/-- The circuit that has taken the seize command in dispatch for this slot and reference and holds the request still (R98). -/
def State.takenCircuit (s : State) (ix : HuntIx) (r : Reference) : Option Slot :=
  match s.hunt.dispatch with
  | some d =>
    if d.stage = .taken && d.request.isOf ix r && (s.circuit d.circuit).seizingFor ix r then some d.circuit else none
  | none => none

/-- CANCEL of a request in dispatch (R110, R111, R112): its slot is marked, and the outcome follows when the seize command ends.
Where the circuit has taken the command, it has ended: the circuit clears forward at once (log entry 37). -/
def State.cancelInDispatch (s : State) (ix : HuntIx) (r : Reference) : State :=
  match s.takenCircuit ix r with
  | some x => (s.setDispatch none).clearForward x cancelledByCancel
  | none => s.putHuntSlot ix { s.huntSlot ix with cancelMark := true }

/-- CANCEL of a WAITING request (R110): in the hunt queue, or returned and not yet taken (log entry 16), it is removed; in dispatch
its slot is marked, or its circuit clears forward. -/
def State.cancelWaiting (s : State) (ix : HuntIx) (r : Reference) : State :=
  if s.hunt.queue.any (fun q => q.isOf ix r) then
    (s.setHunt { s.hunt with queue := s.hunt.queue.filter fun q => !q.isOf ix r }).endSlot ix r
      (s.cancelledReport cancelledByCancel none)
  else if s.events.returned.any (fun e => e.request.isOf ix r) then
    (s.setEvents { s.events with returned := s.events.returned.filter fun e => !e.request.isOf ix r }).endSlot ix r
      (s.cancelledReport cancelledByCancel none)
  else s.cancelInDispatch ix r

/-- CANCEL of a SEIZING request (R110): its circuit clears forward and the slot ends. -/
def State.cancelSeizing (s : State) (ix : HuntIx) (r : Reference) : State :=
  match (s.huntSlot ix).circuit with
  | some x =>
    if (s.circuit x).seizingFor ix r then s.clearForward x cancelledByCancel
    else s.endSlot ix r (s.cancelledReport cancelledByCancel none)
  | none => s.endSlot ix r (s.cancelledReport cancelledByCancel none)

/-- CANCEL of an OFFERED request (R110): its table entry is removed and the slot ends. -/
def State.cancelOffered (s : State) (ix : HuntIx) (r : Reference) : State :=
  match s.offers.table.find? (fun e => e.slot = ix && e.reference = r) with
  | some e => s.endEntry e (s.cancelledReport cancelledByCancel none)
  | none => s.endSlot ix r (s.cancelledReport cancelledByCancel none)

/-- The effect of CANCEL by the slot's state (R110). -/
def State.cancelSlot (s : State) (ix : HuntIx) (r : Reference) : State :=
  match (s.huntSlot ix).state with
  | .waiting => s.cancelWaiting ix r
  | .seizing => s.cancelSeizing ix r
  | .offered => s.cancelOffered ix r
  | .ended => s
  | .free => s

/-- The effect of CANCEL (R110). -/
def State.cancelOrder (s : State) (r : Reference) : State :=
  match s.slotHolding r with
  | none => s.reply .notFound (.reference r)
  | some ix =>
    if (s.huntSlot ix).state = .ended then s.reply .notFound (.reference r)
    else
      let t := s.cancelSlot ix r
      t.reply .done (.slotState (t.huntSlot ix).state)

end Sys2Proof.Machine
end

