-- ==== Sys2Proof/Machine/Operands.lean ====
section
/-! DEFINITION. Reading the field bytes of orders (Table 12-1, R175, R176, R181): lengths, ranges, digit lists and clamping. -/

namespace Sys2Proof.Machine

/-! ### Bytes and words, most significant byte first (12.1) -/

/-- The field byte at a position. -/
def byteAt (f : List Byte) (i : Nat) : Nat := (f.getD i 0).toNat

/-- The two-byte field at a position. -/
def wordAt (f : List Byte) (i : Nat) : Nat := 256 * byteAt f i + byteAt f (i + 1)

/-- A flag byte: bit 0; the unused bits are ignored (R181, log entry 11). -/
def flagAt (f : List Byte) (i : Nat) : Bool := (f.getD i 0).getLsbD 0

/-! ### Digit lists (12.1, R181) -/

/-- The halves of bytes, the high half of each first. -/
def nibbles : List Byte → List Nat
  | [] => []
  | b :: rest => (b.toNat / 16) :: (b.toNat % 16) :: nibbles rest

/-- Bytes that a digit list of n digits packs into: half the count, rounded up. -/
def packedLength (n : Nat) : Nat := (n + 1) / 2

/-- Digits packed two to a byte, the earlier in the high half; the pad nibble is 15. -/
def packDigits : List Digit → List Byte
  | [] => []
  | [d] => [BitVec.ofNat 8 (16 * d.val + 15)]
  | d :: e :: rest => BitVec.ofNat 8 (16 * d.val + e.val) :: packDigits rest

/-- A digit list as sent: the count, then the packed digits. -/
def digitList (ds : List Digit) : List Byte := BitVec.ofNat 8 ds.length :: packDigits ds

/-- A digit list as received: a count in 0..24, exactly the bytes it needs, digits in 0..9 and a pad nibble of 15 (R181). -/
def readDigits : List Byte → Option (List Digit)
  | [] => none
  | count :: packed =>
    let n := count.toNat
    let xs := nibbles packed
    if n ≤ Config.maxDigits ∧ packed.length = packedLength n ∧ (xs.take n).all (· < 10) = true
        ∧ (xs.drop n).all (· = 15) = true then
      some ((xs.take n).map (Fin.ofNat 10))
    else none

/-! ### Fields of the circuit orders and of HUNT -/

/-- The three bytes C: circuit number and expected phase code (12.1). -/
structure Named where
  number : Nat
  expected : Nat
deriving DecidableEq, Repr

/-- Read C: the expected phase code lies in 0..17 (R162). -/
def readNamed (f : List Byte) : Option Named :=
  if byteAt f 2 ≤ 17 then some { number := wordAt f 0, expected := byteAt f 2 } else none

/-- A class, 0..3. -/
def readClass (n : Nat) : Option CallClass := if h : n < 4 then some ⟨n, h⟩ else none

/-- A category, 1..4. -/
def readCategory (n : Nat) : Option Category := if h : 1 ≤ n ∧ n ≤ 4 then some ⟨n - 1, by omega⟩ else none

/-- A span number, 0..2. -/
def readSpan (n : Nat) : Option SpanIx := if h : n < 3 then some ⟨n, h⟩ else none

/-- A profile index, 0..3. -/
def readIndex (n : Nat) : Option (Fin 4) := if h : n < 4 then some ⟨n, h⟩ else none

/-- The fields of HUNT. -/
def readHunt (f : List Byte) : Option HuntFields :=
  match readClass (byteAt f 2), readCategory (byteAt f 3), readDigits (f.drop 5) with
  | some cls, some category, some digits =>
    some { reference := BitVec.ofNat 16 (wordAt f 0), cls := cls, category := category, complete := flagAt f 4,
           digits := digits }
  | _, _, _ => none

/-- The fields of ADD-DIGITS after C. -/
structure AddFields where
  complete : Bool
  digits : List Digit
deriving DecidableEq, Repr

/-- The fields of ADD-DIGITS. -/
def readAddDigits (f : List Byte) : Option (Named × AddFields) :=
  match readNamed f, readDigits (f.drop 4) with
  | some n, some ds => some (n, { complete := flagAt f 3, digits := ds })
  | _, _ => none

/-- The fields of RESPOND after C: a response in 2..10, and the extension, absent for 255 (R181). -/
structure RespondFields where
  response : Code
  extension : Option Nat
deriving DecidableEq, Repr

/-- A response code, 2..10. -/
def readResponse (n : Nat) : Option Code := if h : 2 ≤ n ∧ n ≤ 10 then some ⟨n, by omega⟩ else none

/-- The extension byte: 0..24, or 255 for absent. -/
def readExtension (n : Nat) : Option (Option Nat) := if n ≤ 24 then some (some n) else if n = 255 then some none else none

/-- The fields of RESPOND. -/
def readRespond (f : List Byte) : Option (Named × RespondFields) :=
  match readNamed f, readResponse (byteAt f 3), readExtension (byteAt f 4) with
  | some n, some r, some e => some (n, { response := r, extension := e })
  | _, _, _ => none

/-! ### Configuration orders (R175, R176) -/

/-- A value clamped into a range (R176). -/
def clamp (lo hi n : Nat) : Nat := max lo (min n hi)

/-- Loss policies (Table 12-5). -/
def readPolicy (n : Nat) : Option LossPolicy := if n = 0 then some .hold else if n = 1 then some .default else none

/-- Selection methods (Table 12-5). -/
def readMethod (n : Nat) : Option Method :=
  if n = 0 then some .ascending else if n = 1 then some .descending else if n = 2 then some .rotating else none

/-- Control parities (Table 12-5). -/
def readParity (n : Nat) : Option Parity := if n = 0 then some .even else if n = 1 then some .odd else none

/-- SET-PROFILE: the index and the profile as given, before clamping. -/
def readProfile (f : List Byte) : Option (Fin 4 × Profile) :=
  match readIndex (byteAt f 0), readPolicy (byteAt f 23) with
  | some ix, some policy =>
    some (ix,
      { idlePersist := byteAt f 1, alarmPersist := byteAt f 2, registerPersist := byteAt f 3, linePersist := byteAt f 4,
        ack := wordAt f 5, compel := wordAt f 7, digit := wordAt f 9, response := wordAt f 11, answer := wordAt f 13,
        clearback := wordAt f 15, release := wordAt f 17, guardTime := wordAt f 19, holdTime := wordAt f 21,
        policy := policy, autoRequest := byteAt f 24 })
  | _, _ => none

/-- A profile as stored: persistence values into 2..250, timers other than CLEARBACK to at least 1, the auto-request limit to at
most 24 (R176). -/
def Profile.clamped (p : Profile) : Profile :=
  { p with
    idlePersist := clamp 2 250 p.idlePersist
    alarmPersist := clamp 2 250 p.alarmPersist
    registerPersist := clamp 2 250 p.registerPersist
    linePersist := clamp 2 250 p.linePersist
    ack := max 1 p.ack
    compel := max 1 p.compel
    digit := max 1 p.digit
    response := max 1 p.response
    answer := max 1 p.answer
    release := max 1 p.release
    guardTime := max 1 p.guardTime
    holdTime := max 1 p.holdTime
    autoRequest := min p.autoRequest 24 }

/-- SET-STATION: the settings as given, before clamping. -/
def readStation (f : List Byte) : Option StationSettings :=
  match readMethod (byteAt f 1), readParity (byteAt f 2) with
  | some method, some parity =>
    some { ring := byteAt f 0, method := method, parity := parity, r1 := byteAt f 3, r2 := byteAt f 4, r3 := byteAt f 5,
           announcePeriod := byteAt f 6, offerTime := wordAt f 7, restartTime := wordAt f 9 }
  | _, _ => none

/-- The station settings as stored: the thresholds in two passes, first each to at most 47, then r2 raised to r1 and r3 to the
resulting r2 (R176). -/
def StationSettings.clamped (st : StationSettings) : StationSettings :=
  let r1 := min st.r1 47
  let r2 := max r1 (min st.r2 47)
  let r3 := max r2 (min st.r3 47)
  { st with
    ring := clamp 1 8 st.ring
    r1 := r1
    r2 := r2
    r3 := r3
    announcePeriod := max 10 st.announcePeriod
    offerTime := max 1 st.offerTime
    restartTime := max 1 st.restartTime }

/-- SET-SPAN: the span and its settings; a base above 1023 or a profile index above 3 is refused (R181). -/
def readSpanSettings (f : List Byte) : Option (SpanIx × SpanSettings) :=
  match readSpan (byteAt f 0), readIndex (byteAt f 5) with
  | some sp, some profile =>
    if wordAt f 1 ≤ 1023 then
      some (sp, { base := wordAt f 1, equipped := BitVec.ofNat 16 (wordAt f 3), profile := profile })
    else none
  | _, _ => none

/-! ### The selector of READ-CONFIG -/

/-- What READ-CONFIG selects (R166, Table 12-1). -/
inductive Selector where
  | profile (ix : Fin 4)
  | span (sp : SpanIx)
  | station
deriving DecidableEq, Repr

/-- The selector: 0..3 a profile, 4..6 a span, 7 the station settings. -/
def readSelector (n : Nat) : Option Selector :=
  if h : n < 4 then some (.profile ⟨n, h⟩)
  else if h' : n < 7 then some (.span ⟨n - 4, by omega⟩)
  else if n = 7 then some .station
  else none

end Sys2Proof.Machine
end

