-- ==== Sys2Proof/Machine/Layout.lean ====
section
/-! DEFINITION. The bytes of replies and report records (12.2, 12.3) and the data-out line (R161, R181). -/

namespace Sys2Proof.Machine

/-! ### Fields as bytes -/

/-- A one-byte field. -/
def byteOf (n : Nat) : List Byte := [BitVec.ofNat 8 n]

/-- A two-byte field, most significant byte first (12.1). -/
def wordOf (n : Nat) : List Byte := [BitVec.ofNat 8 (n / 256), BitVec.ofNat 8 n]

/-- A four-byte field, most significant byte first (12.1). -/
def quadOf (n : Nat) : List Byte := wordOf (n / 65536) ++ wordOf n

/-- Some bytes if a field is present, none otherwise. -/
def ifPresent {α : Type} (x : Option α) (bytes : α → List Byte) : List Byte :=
  match x with
  | some a => bytes a
  | none => []

/-- A presence bit of weight w. -/
def mark (present : Bool) (w : Nat) : Nat := if present then w else 0

/-- Phase and step (Table 12-5). -/
def phaseBytes (p : Phase) (step : Option RegStep) : List Byte := byteOf p.code ++ byteOf (stepCode step)

/-! ### The configuration records, without their index (Table 12-2) -/

/-- A profile in the layout of SET-PROFILE. -/
def profileBytes (p : Profile) : List Byte :=
  byteOf p.idlePersist ++ byteOf p.alarmPersist ++ byteOf p.registerPersist ++ byteOf p.linePersist
    ++ wordOf p.ack ++ wordOf p.compel ++ wordOf p.digit ++ wordOf p.response ++ wordOf p.answer ++ wordOf p.clearback
    ++ wordOf p.release ++ wordOf p.guardTime ++ wordOf p.holdTime ++ byteOf p.policy.code ++ byteOf p.autoRequest

/-- A span in the layout of SET-SPAN. -/
def spanBytes (g : SpanSettings) : List Byte := wordOf g.base ++ wordOf g.equipped.toNat ++ byteOf g.profile.val

/-- The station settings in the layout of SET-STATION. -/
def stationBytes (st : StationSettings) : List Byte :=
  byteOf st.ring ++ byteOf st.method.code ++ byteOf st.parity.code ++ byteOf st.r1 ++ byteOf st.r2 ++ byteOf st.r3
    ++ byteOf st.announcePeriod ++ wordOf st.offerTime ++ wordOf st.restartTime

/-! ### Report records (Table 12-3) -/

/-- The presence byte of a report. -/
def Report.presence (r : Report) : Nat :=
  mark r.circuit.isSome 128 + mark r.reference.isSome 64 + mark r.station.isSome 32 + mark r.span.isSome 16
    + mark r.phase.isSome 8 + mark r.category.isSome 4 + mark r.digits.isSome 2 + mark r.circuits.isSome 1

/-- A report record as FETCH-REPORT returns it. -/
def reportBytes (r : Report) : List Byte :=
  byteOf r.kind.code ++ quadOf r.stamp.toNat ++ byteOf r.presence ++ byteOf r.detail1 ++ byteOf r.detail2
    ++ ifPresent r.circuit wordOf
    ++ ifPresent r.reference (fun x => wordOf x.toNat)
    ++ ifPresent r.station (fun st => byteOf st.val ++ byteOf r.tag)
    ++ ifPresent r.span (fun sp => byteOf sp.val)
    ++ ifPresent r.phase (fun p => phaseBytes p.1 p.2)
    ++ ifPresent r.category (fun k => byteOf (categoryNumber k))
    ++ ifPresent r.digits digitList
    ++ ifPresent r.circuits (fun ns => byteOf ns.length ++ ns.flatMap wordOf ++ byteOf (flag r.viewChanged))

/-! ### READ-STATUS, READ-VIEW, READ-CIRCUIT -/

/-- The 15 bytes of READ-STATUS (12.2). -/
def statusBytes (r : StatusReply) : List Byte :=
  byteOf r.partPhase.code ++ byteOf r.busState.code ++ byteOf r.checkErrors ++ byteOf r.free ++ byteOf (levelCode r.level)
    ++ byteOf r.occupied ++ byteOf r.queued ++ byteOf r.resync ++ byteOf (flag r.viewChanged)
    ++ r.spans.toList.flatMap (fun g => byteOf g.1.code ++ byteOf g.2.code)

/-- The 5 bytes of one view record; the present flag is bit 0 and the part phase code bits 2 and 1 (12.2). -/
def viewBytes (st : Station) (v : ViewRecord) : List Byte :=
  byteOf st.val ++ byteOf (flag v.present + 2 * v.phase.code) ++ byteOf (levelCode v.level) ++ byteOf v.free ++ byteOf v.age

/-- The last item as a byte: 0 none, 1..24 the digit of index 0..23, 25 END-OF-ADDRESS, 26 category. DESIGN CHOICE
(log entry 10). -/
def LastItem.code : LastItem → Nat
  | .none => 0
  | .digit i => i + 1
  | .endOfAddress => 25
  | .category => 26

/-- The call owner as four bytes: kind, then slot or origin, then reference or tag. DESIGN CHOICE (log entry 10). -/
def ownerBytes : Option CallOwner → List Byte
  | none => byteOf 0 ++ byteOf 0 ++ wordOf 0
  | some (.ofHost ix r) => byteOf 1 ++ byteOf ix.val ++ wordOf r.toNat
  | some (.foreign o t) => byteOf 2 ++ byteOf o.val ++ wordOf t.toNat
  | some .incoming => byteOf 3 ++ byteOf 0 ++ wordOf 0

/-- The bound request as four bytes; zeros when absent. DESIGN CHOICE (log entry 10). -/
def boundBytes : Option Bound → List Byte
  | none => byteOf 0 ++ byteOf 0 ++ byteOf 0 ++ byteOf 0
  | some b => byteOf b.cls.val ++ byteOf (categoryNumber b.category) ++ byteOf (flag b.repeatUsed) ++ byteOf b.visited.toNat

/-- The presence byte of READ-CIRCUIT: bit 7 owner, 6 bound request, 5 pending request, 4 received category, 3 last response,
2 timer, 1 answer stamp. DESIGN CHOICE (log entry 10). -/
def Circuit.presence (c : Circuit) : Nat :=
  mark c.call.owner.isSome 128 + mark c.call.bound.isSome 64 + mark c.call.send.request.isSome 32
    + mark c.call.buffer.category.isSome 16 + mark c.call.buffer.lastResponse.isSome 8 + mark c.timer.isSome 4
    + mark c.call.answerStamp.isSome 2

/-- The timer as three bytes: purpose with the paused flag in bit 7, and the remaining count. DESIGN CHOICE
(log entry 10). -/
def timerBytes : Option CircuitTimer → List Byte
  | none => byteOf 0 ++ wordOf 0
  | some t => byteOf (t.purpose.code + mark t.paused 128) ++ wordOf t.remaining

/-- READ-CIRCUIT: the fields of R165 in that rule's order, 35 bytes and the packed digits. The packing of the single fields is a
DESIGN CHOICE (log entry 10). -/
def circuitBytes (c : Circuit) : List Byte :=
  phaseBytes c.phase c.call.step ++ byteOf c.sendCode.val
    ++ byteOf c.recog.accepted.val ++ byteOf c.recog.candidate.val ++ byteOf c.recog.count
    ++ byteOf (mark c.hostBlock 1 + mark c.quiesceBlock 2 + mark c.remoteBlocked 4)
    ++ byteOf c.presence
    ++ ownerBytes c.call.owner ++ boundBytes c.call.bound
    ++ digitList c.call.send.digits ++ byteOf (flag c.call.send.complete) ++ byteOf c.call.send.pointer
    ++ byteOf c.call.send.last.code ++ byteOf ((c.call.send.request.map Fin.val).getD 0)
    ++ byteOf (categoryNumber c.call.category)
    ++ digitList c.call.buffer.digits ++ byteOf (flag c.call.buffer.endReceived)
    ++ byteOf ((c.call.buffer.category.map categoryNumber).getD 0) ++ byteOf c.call.buffer.limit
    ++ byteOf ((c.call.buffer.lastResponse.map Fin.val).getD 0)
    ++ byteOf (mark c.call.answerPending 1 + mark c.call.held 2)
    ++ timerBytes c.timer ++ quadOf ((c.call.answerStamp.map BitVec.toNat).getD 0)

/-! ### Replies (Table 12-2) -/

/-- The field bytes of a reply. -/
def ReplyBody.bytes : ReplyBody → List Byte
  | .none => []
  | .partPhase p => byteOf p.code
  | .circuitNumber n => wordOf n
  | .phaseStep p step => phaseBytes p step
  | .phaseStepCount p step count => phaseBytes p step ++ byteOf count
  | .reference r => wordOf r.toNat
  | .detail d => byteOf d.code
  | .huntSlot ix => byteOf ix.val
  | .slotState st => byteOf st.code
  | .quiesce q => byteOf q.code
  | .profile p => profileBytes p
  | .span g => spanBytes g
  | .station st => stationBytes st
  | .stationNumbered st number => stationBytes st ++ byteOf number.val
  | .status r => statusBytes r
  | .view records => records.flatMap fun x => viewBytes x.1 x.2
  | .report r => reportBytes r
  | .checkErrors n => byteOf n
  | .circuit c => circuitBytes c

/-- A reply as clocked out: status, length, fields (Table 10-1). -/
def replyBytes (r : Reply) : List Byte := byteOf r.status.code ++ byteOf r.body.bytes.length ++ r.body.bytes

/-- The byte on the data-out line at a position counted from the first reply byte: the reply of the transaction's order, then
fill; fill throughout when the order was discarded (R160, R161, R181). -/
def State.dataOut (s : State) (i : Nat) : Byte :=
  match s.port.reply with
  | some r => if s.port.replyStands then (replyBytes r).getD i Config.fill else Config.fill
  | none => Config.fill

end Sys2Proof.Machine
end

