-- ==== Sys2Proof/Machine/Frames.lean ====
section
/-! DEFINITION. Frames of the station bus: their bits, stuffing, check, payload layouts, reception and transmission
(R114, R115, R118 to R120, Tables 7-2, 7-3 and 12-6). A `true` bit is recessive and carries a 1. -/

namespace Sys2Proof.Machine

/-! ### Bits, most significant first (12.1) -/

/-- The lowest `w` bits of a number, most significant first. -/
def bitsOf (w n : Nat) : List Bit := ((List.range w).reverse).map n.testBit

/-- The number whose bits, most significant first, these are. -/
def ofBits (bits : List Bit) : Nat := bits.foldl (fun n b => 2 * n + flag b) 0

/-- The bits of bytes. -/
def bytesBits (bs : List Byte) : List Bit := bs.flatMap fun b => bitsOf 8 b.toNat

/-- The first k bytes of a list of bits. -/
def bitsBytes : Nat → List Bit → List Byte
  | 0, _ => []
  | k + 1, bits => BitVec.ofNat 8 (ofBits (bits.take 8)) :: bitsBytes k (bits.drop 8)

/-! ### The check (R118) -/

/-- One bit of the division by x^16 + x^12 + x^5 + 1. -/
def checkStep (r : BitVec 16) (b : Bit) : BitVec 16 :=
  if r.msb != b then (r <<< 1) ^^^ 0x1021#16 else r <<< 1

/-- The check over bits: the register starts from all ones; no final inversion (R118). -/
def check (bits : List Bit) : BitVec 16 := bits.foldl checkStep (BitVec.allOnes 16)

/-! ### Stuffing (R114) -/

/-- Stuffed bits: a recessive bit after the fifth dominant bit in a row; `run` counts the dominant bits before
(R114, log entry 20). -/
def stuff : Nat → List Bit → List Bit
  | _, [] => []
  | run, b :: rest =>
    if b then true :: stuff 0 rest
    else if run + 1 = Config.stuffRun then false :: true :: stuff 0 rest
    else false :: stuff (run + 1) rest

/-- The data bits of a line from its start bit on, the stuff bits removed, up to a stuff violation, to the bit at which the bus
becomes idle, or to the end of the bits. `run` and `idle` count the dominant and recessive bits before (R114, R115, R124). -/
def dataBits : Nat → Nat → List Bit → List Bit
  | _, _, [] => []
  | run, idle, b :: rest =>
    if run = Config.stuffRun then (if b then dataBits 0 (idle + 1) rest else [])
    else if b then (if idle + 1 = Config.idleBits then [true] else true :: dataBits 0 (idle + 1) rest)
    else false :: dataBits (run + 1) 0 rest

/-! ### Frames (Table 7-2) -/

/-- A frame by its fields. -/
structure RawFrame where
  urgency : Fin 4
  source : Station
  dest : Station
  kind : Fin 16
  payload : List Byte
deriving DecidableEq, Repr

/-- The bits the check covers: arbitration byte, kind, length, payload (R118). -/
def RawFrame.covered (f : RawFrame) : List Bit :=
  bitsOf 2 f.urgency.val ++ bitsOf 3 f.source.val ++ bitsOf 3 f.dest.val ++ bitsOf 4 f.kind.val ++ bitsOf 5 f.payload.length
    ++ bytesBits f.payload

/-- The bits of a frame before stuffing, start bit to check field. -/
def RawFrame.bits (f : RawFrame) : List Bit := false :: f.covered ++ bitsOf 16 (check f.covered).toNat

/-- The bits a sender puts on the line for a frame, start bit to check field. -/
def RawFrame.line (f : RawFrame) : List Bit := stuff 0 f.bits

/-! ### Payloads (Table 12-6) -/

/-- The visited set as one byte and the first byte of an OFFER: origin, class, category − 1, complete flag. -/
def offerPayload (o : OfferBody) : List Byte :=
  byteOf (32 * o.origin.val + 8 * o.cls.val + 2 * o.category.val + flag o.complete) ++ [o.tag] ++ [o.visited]
    ++ digitList o.digits

/-- The kind code of a directed frame. -/
def FrameBody.kind : FrameBody → Fin 16
  | .offer _ => 1
  | .grant _ _ => 2
  | .exhausted _ => 3
  | .withdraw _ _ => 4

/-- The urgency of a directed frame (Table 7-3). -/
def FrameBody.urgency : FrameBody → Fin 4
  | .offer _ => 1
  | .grant _ _ => 0
  | .exhausted _ => 0
  | .withdraw _ _ => 0

/-- The payload of a directed frame. -/
def FrameBody.payload : FrameBody → List Byte
  | .offer o => offerPayload o
  | .grant tag n => [tag] ++ wordOf n
  | .exhausted tag => [tag]
  | .withdraw tag n => [tag] ++ wordOf n

/-- A directed frame on the line from station `source`. -/
def Directed.raw (d : Directed) (source : Station) : RawFrame :=
  { urgency := d.body.urgency, source := source, dest := d.dest, kind := d.body.kind, payload := d.body.payload }

/-- A LEVEL frame on the line from station `source`; its destination is sent as 111 (Table 7-3). -/
def LevelFrame.raw (f : LevelFrame) (source : Station) : RawFrame :=
  { urgency := 2, source := source, dest := 7, kind := 5,
    payload := byteOf (levelCode f.level) ++ byteOf f.free ++ byteOf f.phase.code }

/-- What a good frame says. -/
inductive Content where
  | directed (d : Directed)
  | level (f : LevelFrame)
deriving DecidableEq, Repr

/-- A circuit number of a payload, 0..1023. -/
def readCircuitNumber (f : List Byte) : Option Nat := if wordAt f 1 ≤ 1023 then some (wordAt f 1) else none

/-- The OFFER of a payload. -/
def readOffer (p : List Byte) : Option OfferBody :=
  let b := byteAt p 0
  (readDigits (p.drop 3)).map fun ds =>
    { origin := Fin.ofNat 8 (b / 32), tag := p.getD 1 0, cls := Fin.ofNat 4 (b / 8), category := Fin.ofNat 4 (b / 2),
      digits := ds, complete := b % 2 = 1, visited := p.getD 2 0 }

/-- A level code of a LEVEL frame: 0..3, or 4 for NONE. -/
def readLevel (n : Nat) : Option (Option CallClass) :=
  if h : n < 4 then some (some ⟨n, h⟩) else if n = 4 then some none else none

/-- The part phase of a LEVEL frame: 1 STARTING or 2 RUN. -/
def readPhase (n : Nat) : Option PartPhase := if n = 1 then some .starting else if n = 2 then some .run else none

/-- The LEVEL frame of a payload. -/
def readLevelFrame (p : List Byte) : Option LevelFrame :=
  match readLevel (byteAt p 0), readPhase (byteAt p 2) with
  | some l, some ph => if byteAt p 1 ≤ 48 then some { level := l, free := byteAt p 1, phase := ph } else none
  | _, _ => none

/-- The tests of R118 on a frame with a good check: kind and urgency agree, the length is the kind's, the payload fields lie in
their ranges. -/
def RawFrame.content (f : RawFrame) : Option Content :=
  let p := f.payload
  let directed (b : FrameBody) : Content := .directed { dest := f.dest, body := b }
  if f.kind = 1 ∧ f.urgency = 1 then (readOffer p).map fun o => directed (.offer o)
  else if f.kind = 2 ∧ f.urgency = 0 ∧ p.length = 3 then
    (readCircuitNumber p).map fun n => directed (.grant (p.getD 0 0) n)
  else if f.kind = 3 ∧ f.urgency = 0 ∧ p.length = 1 then some (directed (.exhausted (p.getD 0 0)))
  else if f.kind = 4 ∧ f.urgency = 0 ∧ p.length = 3 then
    (readCircuitNumber p).map fun n => directed (.withdraw (p.getD 0 0) n)
  else if f.kind = 5 ∧ f.urgency = 2 ∧ p.length = 3 then (readLevelFrame p).map .level
  else none

/-! ### Reception (R124, R125) -/

/-- What a receiver makes of the bits of a frame from its start bit on. -/
inductive Received where
  /-- The frame fails its check (R124). -/
  | failed
  /-- The check is good; the tests of R118 decide the content, absent when one fails. -/
  | good (source : Station) (content : Option Content)
deriving DecidableEq, Repr

/-- The fields of data bits that hold a whole frame of payload length `len`. -/
def rawOf (bits : List Bit) (len : Nat) : RawFrame :=
  { urgency := Fin.ofNat 4 (ofBits ((bits.drop 1).take 2))
    source := Fin.ofNat 8 (ofBits ((bits.drop 3).take 3))
    dest := Fin.ofNat 8 (ofBits ((bits.drop 6).take 3))
    kind := Fin.ofNat 16 (ofBits ((bits.drop 9).take 4))
    payload := bitsBytes len (bits.drop 18) }

/-- The length field of a frame, from its data bits. -/
def lengthField (bits : List Bit) : Nat := ofBits ((bits.drop 13).take 5)

/-- The line of a frame from its start bit on has brought a whole length field, and it is above 20 (R124). -/
def overLong (line : List Bit) : Bool :=
  let bits := dataBits 0 0 line
  18 ≤ bits.length && Config.maxPayload < lengthField bits

/-- Judge the data bits of a frame: over-long, cut short before the check field ended, or its check compared (R118, R124). -/
def judge (bits : List Bit) : Received :=
  let len := lengthField bits
  if bits.length < 18 then .failed
  else if Config.maxPayload < len then .failed
  else if bits.length < 34 + 8 * len then .failed
  else if ofBits ((bits.drop (18 + 8 * len)).take 16) = (check ((bits.drop 1).take (17 + 8 * len))).toNat then
    let f := rawOf bits len
    .good f.source f.content
  else .failed

/-- What a receiver makes of a line from a frame's start bit on. -/
def receive (line : List Bit) : Received := judge (dataBits 0 0 line)

/-! ### Transmission (R119, R120) -/

/-- How a transmission ended before its acknowledge slot. -/
inductive SendEnd where
  | sent | lost | aborted
deriving DecidableEq, Repr

/-- Send the bits of a frame and read them back. `arb` counts the bits of the arbitration part still to come, stuff bits not among
them; `run` counts the dominant bits on the line before (R114), so that a stuff bit follows the fifth dominant bit as read. The
answer is the end and the bits read up to it. A difference in the arbitration part loses where dominant is read for recessive and
changes nothing else (R119, log entry 22); after it a difference aborts (R120). A stuff bit due after the last bit is sent and
read, and not compared (log entry 20). Bits beyond `readBack` read as sent (log entry 19). -/
def sendBits : Nat → Nat → List Bit → List Bit → SendEnd × List Bit
  | _, _, [], _ => (.sent, [])
  | arb, run, b :: data, back =>
    let r := back.headD b
    if r ≠ b ∧ arb = 0 then (.aborted, [r])
    else if b = true ∧ r = false then (.lost, [r])
    else
      let dominant := if r then 0 else run + 1
      if dominant = Config.stuffRun then
        if data.isEmpty then (.sent, [r, back.tail.headD true])
        else if back.tail.headD true then
          let rest := sendBits (arb - 1) 0 data back.tail.tail
          (rest.1, r :: true :: rest.2)
        else (if arb - 1 = 0 then .aborted else .lost, [r, false])
      else
        let rest := sendBits (arb - 1) dominant data back.tail
        (rest.1, r :: rest.2)

/-- Send a frame: its start bit and arbitration byte are the arbitration part (R119). -/
def RawFrame.transmit (f : RawFrame) (readBack : List Bit) : SendEnd × List Bit := sendBits 9 0 f.bits readBack

end Sys2Proof.Machine
end

