-- ==== Sys2Proof/Machine/Bus.lean ====
section
/-! DEFINITION. The station bus controller (chapter 7): line counts, frames sent and received, delivery, announcing, the
neighbour view. -/

namespace Sys2Proof.Machine

/-! ### The line: counts, frames in reception, the stuck line (R115, R117, R121) -/

/-- The counts after one more bit time, held at 11 and 24 (log entry 19). A station drives an acknowledge slot for one bit time
(R121). DESIGN CHOICE: recessive bits that end a frame count with the slot and the end field after them (log entry 42). -/
def Bus.count (b : Bus) (bit : Bit) : Bus :=
  if bit then { b with recessiveRun := min Config.idleBits (b.recessiveRun + 1), dominantRun := 0, ackDriven := false }
  else { b with recessiveRun := 0, dominantRun := min Config.stuckBits (b.dominantRun + 1), ackDriven := false }

/-- The counts after bits of a frame that this station is sending. Its line is not dominant for 24 bit times: the frame is ended
before (R117). -/
def Bus.fed (b : Bus) (line : List Bit) : Bus := line.foldl Bus.count b

/-- The frame in reception after one more bit: a dominant bit that finds the bus idle is a start bit; the bits that follow join
it (R115). DESIGN CHOICE: that holds of the acknowledge slot too, where the 11 bits before it were recessive (log entry 38). -/
def Bus.receiving (b : Bus) (bit : Bit) : List Bit :=
  if b.reception.isEmpty then (if !bit && b.recessiveRun = Config.idleBits then [bit] else []) else b.reception ++ [bit]

/-- The bus with one more bit heard: its counts and the frame in reception. -/
def Bus.heard (b : Bus) (bit : Bit) : Bus := { b.count bit with reception := b.receiving bit }

/-- In ACTIVE, with 24 dominant bit times counted, the line is stuck: FAULT and BUS-STUCK (R117). -/
def State.stuckTest (s : State) : State :=
  if s.bus.state = .active ∧ s.bus.dominantRun = Config.stuckBits then
    (s.setBus { s.bus with state := .fault }).postBus .busStuck
  else s

/-- In FAULT, with 11 recessive bit times counted, the line has recovered: ACTIVE and BUS-RECOVERED (R117). -/
def State.recoveredTest (s : State) : State :=
  if s.bus.state = .fault ∧ s.bus.recessiveRun = Config.idleBits then
    (s.setBus { s.bus with state := .active }).postBus .busRecovered
  else s

/-! ### The neighbour view (R128, R129) -/

/-- Write the view record of a station. -/
def State.putView (s : State) (st : Station) (v : ViewRecord) : State :=
  s.setBus { s.bus with view := s.bus.view.set st.val (some v) st.isLt }

/-- STATION-ABSENT with its cause. -/
def State.postAbsent (s : State) (st : Station) (cause : Nat) : State :=
  s.post none { s.report .stationAbsent with station := some st, detail1 := cause }

/-- A LEVEL frame is taken into the view (R128). -/
def State.takeLevel (s : State) (st : Station) (f : LevelFrame) : State :=
  match s.bus.view[st] with
  | some v =>
    let t := s.putView st { present := true, level := f.level, free := f.free, phase := f.phase, age := 0 }
    if v.present then t
    else
      t.post none
        { t.report .stationPresent with
          station := some st, detail1 := levelCode f.level, detail2 := f.free, tag := f.phase.code }
  | none => s

/-- A third failed delivery marks the destination absent at once (R122, R129). -/
def State.markAbsent (s : State) (st : Station) : State :=
  match s.bus.view[st] with
  | some v =>
    let t := s.putView st { v with present := false, age := Config.maxAge }
    if v.present then t.postAbsent st absentDelivery else t
  | none => s

/-- One view record ages at an announce expiry (R129). -/
def State.ageRecord (s : State) (st : Station) : State :=
  match s.bus.view[st] with
  | some v =>
    if v.age < Config.maxAge then
      if v.age + 1 = Config.maxAge ∧ v.present = true then
        (s.putView st { v with present := false, age := Config.maxAge }).postAbsent st absentAged
      else s.putView st { v with age := v.age + 1 }
    else s
  | none => s

/-! ### Receiving (R124 to R126) -/

/-- One check error is counted (R124). -/
def State.countError (s : State) : State :=
  s.setBus { s.bus with checkErrors := min Config.checkErrorLimit (s.bus.checkErrors + 1) }

/-- "Delivery failed" for every directed frame, in the order of the queue; a dropped one has no outcome (R123, R136). -/
def State.failAll (s : State) (q : List Queued) : State :=
  q.foldl (fun s q => if q.dropped then s else s.handOutcome { delivered := false, frame := q.frame }) s

/-- Another station holds this station's number: ACTIVE and FAULT become MUTE, the queue and the LEVEL slot are emptied and
DUPLICATE-STATION is posted (R126). -/
def State.duplicate (s : State) : State :=
  if s.bus.state.carries then
    let t := s.setBus { s.bus with state := .mute, queue := [], levelSlot := none, onLine := none }
    let u := t.failAll s.bus.queue
    u.post none { u.report .duplicateStation with station := some s.station }
  else s

/-- The station drives the acknowledge slot (R121). -/
def State.acknowledge (s : State) : State := s.setBus { s.bus with ackDriven := true }

/-- A directed frame is passed to the offer unit (R125). -/
def State.passOn (s : State) (a : ArrivedFrame) : State :=
  s.setEvents { s.events with arrived := s.events.arrived ++ [a] }

/-- A good frame that does not raise the duplicate, by source and destination (R125). -/
def State.handleFrame (s : State) (source : Station) (c : Content) : State :=
  if s.ring ≤ source.val then s
  else
    match c with
    | .level f => (if s.bus.state = .active then s.acknowledge else s).takeLevel source f
    | .directed d =>
      if d.dest = s.station ∧ s.bus.state = .active then s.acknowledge.passOn { source := source, body := d.body } else s

/-- What a receiver does with a frame that has ended (R116, R118, R124 to R126). -/
def State.received (s : State) (r : Received) : State :=
  match r with
  | .failed => s.countError
  | .good _ none => s
  | .good source (some c) =>
    if s.bus.state = .silent then s
    else if source = s.station then s.duplicate
    else s.handleFrame source c

/-- The frame in reception ends and is judged; with none in reception nothing happens. -/
def State.endReception (s : State) : State :=
  if s.bus.reception.isEmpty then s
  else (s.setBus { s.bus with reception := [] }).received (receive s.bus.reception)

/-- A frame in reception cannot go on past this bit: it breaks the stuff rule, makes the bus idle, or ends a length field above 20
(R114, R115, R124). -/
def Bus.cutsFrame (b : Bus) : Bool :=
  Config.stuffRun < b.dominantRun || b.recessiveRun = Config.idleBits || overLong b.reception

/-- After a bit in reception, a frame that cannot go on ends; the receiver then waits for the next idle (R124). -/
def State.cutTest (s : State) : State := if s.bus.cutsFrame then s.endReception else s

/-! ### Sending (R115, R119, R120, R122, R123) -/

/-- The station may start a frame: ACTIVE, the bus idle, no frame of its own awaiting its acknowledge slot and none in
reception (R115, R116). -/
def Bus.maySend (b : Bus) : Bool :=
  b.state = .active && b.recessiveRun = Config.idleBits && b.onLine.isNone && b.reception.isEmpty

/-- The frame is of this urgency. -/
def Queued.hasUrgency (u : Fin 4) (q : Queued) : Bool := q.frame.body.urgency = u

/-- The urgency from which the next directed frame comes: 0 before 1 (R123). -/
def Bus.nextUrgency (b : Bus) : Fin 4 := if b.queue.any (Queued.hasUrgency 0) then 0 else 1

/-- The next directed frame: within the urgency, the one that joined first (R123). -/
def Bus.nextDirected (b : Bus) : Option Queued := b.queue.find? (Queued.hasUrgency b.nextUrgency)

/-- Change the first queued frame that a test selects. -/
def changeFirst (sel : Queued → Bool) (f : Queued → Queued) : List Queued → List Queued
  | [] => []
  | q :: rest => if sel q then f q :: rest else q :: changeFirst sel f rest

/-- A failed attempt of the directed frame being sent (R122): the count rises; at the third the frame leaves, its owner is told and
its destination marked absent. A dropped frame leaves without an outcome (R136). -/
def State.attemptFailed (s : State) : State :=
  match s.bus.queue.find? Queued.sending with
  | none => s
  | some q =>
    let removed := s.setBus { s.bus with queue := s.bus.queue.eraseP Queued.sending }
    if q.dropped then removed
    else if q.attempts + 1 < Config.attemptLimit then
      s.setBus { s.bus with
        queue := changeFirst Queued.sending (fun q => { q with attempts := q.attempts + 1, sending := false }) s.bus.queue }
    else (removed.handOutcome { delivered := false, frame := q.frame }).markAbsent q.frame.dest

/-- The directed frame being sent is delivered: it leaves the queue and its owner is told, unless it was dropped
(R122, R136). -/
def State.attemptSucceeded (s : State) : State :=
  match s.bus.queue.find? Queued.sending with
  | none => s
  | some q =>
    let removed := s.setBus { s.bus with queue := s.bus.queue.eraseP Queued.sending }
    if q.dropped then removed else removed.handOutcome { delivered := true, frame := q.frame }

/-- The arbitration is lost: the station is a receiver of the frame whose bits it has read (R119). Lost at a stuff bit, the frame
breaks the stuff rule and ends at once (R124). -/
def State.loseArbitration (s : State) (read : List Bit) : State :=
  (s.setBus { s.bus.fed read with reception := read }).cutTest

/-- Send the next directed frame under arbitration (R119, R120, R122). -/
def State.sendDirected (s : State) (q : Queued) (readBack : List Bit) : State :=
  let result := (q.frame.raw s.station).transmit readBack
  let started := s.setBus { s.bus with
    queue := changeFirst (Queued.hasUrgency s.bus.nextUrgency) (fun q => { q with sending := true }) s.bus.queue }
  match result.1 with
  | .lost => s.loseArbitration result.2
  | .aborted => (started.setBus (started.bus.fed result.2)).attemptFailed
  | .sent => started.setBus { started.bus.fed result.2 with onLine := some .directed }

/-- Send the LEVEL frame under arbitration: it leaves the slot unless it loses (R122, R123). -/
def State.sendLevel (s : State) (f : LevelFrame) (readBack : List Bit) : State :=
  let result := (f.raw s.station).transmit readBack
  match result.1 with
  | .lost => s.loseArbitration result.2
  | .aborted => s.setBus { s.bus.fed result.2 with levelSlot := none }
  | .sent => s.setBus { s.bus.fed result.2 with levelSlot := none, onLine := some .level }

/-! ### Bits heard (R114, R115, R117, R124) -/

/-- One bit time in which this station hears the line: the counts and the frame in reception take the bit, a frame that cannot go
on ends, and the stuck line and its recovery are noticed. -/
def State.hearBit (s : State) (bit : Bit) : State :=
  let t := s.setBus (s.bus.heard bit)
  t.cutTest.stuckTest.recoveredTest

/-- The bits this station has heard since the last bus command (log entry 19); the line is followed in every bus state. -/
def State.hear (s : State) (line : List Bit) : State := line.foldl State.hearBit s

/-- BUS_FRAME_RECEIVED (R125): a frame ends. `line` holds the bits sampled since the last bus command, up to the end of the frame;
the frame starts at the first dominant bit at an idle bus, or is the one whose arbitration this station lost (R115, R119). -/
def execBusFrameReceived (line : List Bit) (s : State) : Host.Outcome State Fault Refusal :=
  whenReleased s fun s => (s.hear line).endReception

/-- FRAME_TRANSMIT (R115): the bits sampled since the last bus command are heard; if the station may send and holds a frame,
its highest-ordered one is sent and read back. -/
def execFrameTransmit (line readBack : List Bit) (s : State) : Host.Outcome State Fault Refusal :=
  whenReleased s fun s =>
    let t := s.hear line
    if t.bus.maySend then
      match t.bus.nextDirected, t.bus.levelSlot with
      | some q, _ => t.sendDirected q readBack
      | none, some f => t.sendLevel f readBack
      | none, none => t
    else t

/-- ACKNOWLEDGE_SLOT (R122): the slot of the frame on the line is read; dominant is an acknowledgement. -/
def execAcknowledgeSlot (level : Bit) (s : State) : Host.Outcome State Fault Refusal :=
  whenReleased s fun s =>
    match s.bus.onLine with
    | none => s
    | some o =>
      let t := (s.setBus { s.bus.count level with onLine := none }).stuckTest.recoveredTest
      match o with
      | .directed => if level then t.attemptFailed else t.attemptSucceeded
      | .level => t
      | .orphan => t

/-- BUS_STUCK (R117): the line has been dominant for 24 bit times. -/
def execBusStuck (line : List Bit) (s : State) : Host.Outcome State Fault Refusal :=
  whenReleased s fun s => (s.hear line).stuckTest

/-- BUS_RECOVERED (R117): the line has been recessive for 11 bit times. -/
def execBusRecovered (line : List Bit) (s : State) : Host.Outcome State Fault Refusal :=
  whenReleased s fun s => (s.hear line).recoveredTest

/-! ### Announcing (R127, R129) -/

/-- ANNOUNCE_EXPIRY (R127): the LEVEL slot is written in ACTIVE or FAULT, the view ages in station order and the timer starts
again. -/
def execAnnounceExpiry (s : State) : Host.Outcome State Fault Refusal :=
  whenReleased s fun s =>
    if s.bus.announce = some 0 then
      let t := (List.finRange 8).foldl State.ageRecord s.writeLevel
      t.setBus { t.bus with announce := some t.settings.station.announcePeriod }
    else s

end Sys2Proof.Machine
end

