-- ==== Sys2Proof/Machine/Highway.lean ====
section
/-! DEFINITION. The highway interface (chapter 1): completed and incomplete multiframes, highway loss and substitutes. -/

namespace Sys2Proof.Machine

/-- Signalling runs: STARTING or RUN (R2, R4). -/
def PartPhase.signals (p : PartPhase) : Bool := p = .starting || p = .run

/-- Hand one multiframe on: a sample for each slot with the valid bit of its span, and the three valid bits (R1). -/
def State.deliver (s : State) (code : Slot → Option Code) (valid : SpanIx → Bool) : State :=
  s.setEvents { s.events with
    samples := s.events.samples ++
      allSlots.map fun x => { slot := x, code := code x, valid := valid (spanOf x) }
    validBits := s.events.validBits ++ (List.finRange 3).map fun sp => { span := sp, valid := valid sp } }

/-- Produce a substitute multiframe: valid bits of 0 and no codes; none in CONFIG (R4). -/
def State.substitute (s : State) : State :=
  if s.partPhase.signals then s.deliver (fun _ => none) (fun _ => false) else s

/-- Time passes at the highway: the clock periods since the last highway command join the silence interval; when it reaches 6 ms
in PRESENT the state becomes LOST, the good-run count 0 and the first substitute is produced (R3, R4, log entry 3). -/
def State.passSilence (s : State) (elapsed : Nat) : State :=
  let h := { s.highway with silence := s.highway.silence + elapsed }
  if h.present && Config.silenceLimit ≤ h.silence then
    (s.setHighway { h with present := false, goodRun := 0 }).substitute
  else s.setHighway h

/-- The clock periods from the marker of the last completed multiframe to that of one that ends now, `lead` periods after its own
marker (R3). -/
def Highway.markerSpacing (h : Highway) (lead : Nat) : Nat := h.silence + h.lead - lead

/-- The spacing test: 2 ms ± 125 µs from the previous completed marker (R3). -/
def spacedRight (periods : Nat) : Bool :=
  Config.multiframePeriods - Config.spacingTolerance ≤ periods
    && periods ≤ Config.multiframePeriods + Config.spacingTolerance

/-- COMPLETED_MULTIFRAME (R1, R2, R3): in PRESENT it is delivered outside CONFIG; in LOST it counts for the good run, and the
eighth makes the state PRESENT. One that ends a silence of 6 ms or more meets LOST. The spacing is that of the
markers (log entry 3). -/
def execCompletedMultiframe (times : MultiframeTimes) (codes : Vector Code 48) (valid : Vector Bool 3) (s : State) :
    Host.Outcome State Fault Refusal :=
  whenReleased s fun s =>
    let t := s.passSilence times.elapsed
    let h := t.highway
    if h.present then
      let u := t.setHighway { h with silence := 0, lead := times.lead }
      if s.partPhase.signals then u.deliver (fun x => some codes[x]) (fun sp => valid[sp]) else u
    else
      let run := if spacedRight (h.markerSpacing times.lead) then min (h.goodRun + 1) Config.goodRunLimit else 1
      t.setHighway { present := run = Config.goodRunLimit, goodRun := run, silence := 0, lead := times.lead }

/-- MULTIFRAME_NOT_COMPLETED (R1, R3): discarded; in LOST the good-run count becomes 0. The silence interval keeps running. -/
def execMultiframeNotCompleted (elapsed : Nat) (s : State) : Host.Outcome State Fault Refusal :=
  whenReleased s fun s =>
    let t := s.passSilence elapsed
    if t.highway.present then t else t.setHighway { t.highway with goodRun := 0 }

/-- The clock periods that the silence interval still lacks to 6 ms (R3). -/
def Highway.untilLost (h : Highway) : Nat := Config.silenceLimit - h.silence

/-- HIGHWAY_LOST (R3, R4): in PRESENT the silence interval reaches 6 ms: the periods it still lacks pass. No event in LOST
(log entry 3). -/
def execHighwayLost (s : State) : Host.Outcome State Fault Refusal :=
  whenReleased s fun s => if s.highway.present then s.passSilence s.highway.untilLost else s

/-- SUBSTITUTE_MULTIFRAME (R4): produced while LOST in STARTING or RUN. -/
def execSubstituteMultiframe (elapsed : Nat) (s : State) : Host.Outcome State Fault Refusal :=
  whenReleased s fun s =>
    if s.highway.present then s.passSilence elapsed else (s.passSilence elapsed).substitute

end Sys2Proof.Machine
end

