-- ==== Sys2Proof/Machine/Start.lean ====
section
/-! DEFINITION. Reset (R174), the entry to STARTING (R178) and what RESTART empties (R180). -/

namespace Sys2Proof.Machine

/-! ### Reset input (R174) -/

/-- RESET_INPUT_ASSERTED (R174): every state is held at its reset value; the waiting commands stay. -/
def execResetInputAsserted (s : State) : Host.Outcome State Fault Refusal :=
  .next ((State.reset.setPending s.pending).setInReset true)

/-- RESET_RELEASE (R174): power-on completes or the reset input is released; CONFIG is entered with the straps latched. -/
def execResetRelease (straps : Station) (s : State) : Host.Outcome State Fault Refusal :=
  .next ((State.reset.setPending s.pending).setStation straps)

/-! ### Entry to STARTING (R178) -/

/-- A circuit record at the entry: reset values, and RESTARTING with RESTART for an equipped circuit (R178). -/
def State.startCircuit (s : State) (slot : Slot) : Circuit :=
  if s.equipped slot then
    { Circuit.reset with
      phase := .restarting
      timer := some { purpose := .restart, remaining := s.settings.station.restartTime, paused := false } }
  else Circuit.reset

/-- The view at the entry: one absent record for each other station of the ring (R128). -/
def State.startView (s : State) : Vector (Option ViewRecord) 8 :=
  Vector.ofFn fun st =>
    if st.val < s.ring ∧ st ≠ s.station then
      some { present := false, level := none, free := 0, phase := .starting, age := Config.maxAge }
    else none

/-- The bus state at the entry: MUTE stays; FAULT if the line is stuck; otherwise ACTIVE (R116, R117, R178). -/
def Bus.startState (b : Bus) : BusState :=
  if b.state = .mute then .mute else if b.dominantRun = Config.stuckBits then .fault else .active

/-- The controller at the entry: its state, the view, the announce timer, and the LEVEL frame unless MUTE (R127, R178). -/
def State.startBus (s : State) : Bus :=
  { s.bus with
    state := s.bus.startState
    view := s.startView
    announce := some s.settings.station.announcePeriod
    levelSlot :=
      if s.bus.startState = .mute then s.bus.levelSlot else some { level := none, free := 0, phase := .starting } }

/-- Hand-overs that stay at the entry: samples, valid bits and frames from the line. Those of calls and requests that have been
dropped go with them (log entry 4). -/
def Events.atStart (e : Events) : Events :=
  { e with actions := [], returned := [], outcomes := [] }

/-- Entry to STARTING by GO or RESTART (R178). DESIGN CHOICE: the BUS-STUCK of a stuck line is stamped with the counter as this event
sets it, 0 (log entry 39). -/
def State.enterStarting (s : State) : State :=
  let t := (((((((s.setPartPhase .starting).setTick 0).setCircuits (Vector.ofFn s.startCircuit)).setRestarting
    s.equippedCount).setSpans (Vector.replicate 3 Span.reset)).setHunt Hunt.reset).setOffers
    { s.offers with table := [] }).setEvents s.events.atStart
  let u := t.setBus t.startBus
  let v := if u.bus.state = .fault then u.postBus .busStuck else u
  if v.highway.present then v else v.substitute

/-! ### RESTART (R180) -/

/-- What RESTART empties beyond the entry to STARTING: the send queue, the LEVEL slot and the report unit. A frame on the line is
completed without an outcome (R180). -/
def State.dropWork (s : State) : State :=
  (s.setBus { s.bus with
    queue := [], levelSlot := none, onLine := s.bus.onLine.map fun _ => .orphan }).setReports Reports.reset

end Sys2Proof.Machine
end

