-- ==== Sys2Proof/Machine/Orders.lean ====
section
/-! DEFINITION. The order port (chapter 10) and the orders of Table 10-2. Each order is one event: the decoder's checks in the order
of R162, the owning rule, the reply (R160). -/

namespace Sys2Proof.Machine

/-! ### The decoder (R162) -/

/-- Table 10-2: taken in CONFIG only. -/
def PartPhase.configOnly (p : PartPhase) : Bool := p = .config
/-- Table 10-2: taken in every part phase. -/
def PartPhase.anyPhase (_ : PartPhase) : Bool := true
/-- Table 10-2: taken in RUN only. -/
def PartPhase.runOnly (p : PartPhase) : Bool := p = .run

/-- A refusal that carries the part phase (Table 10-3). -/
def State.refuse (s : State) (st : Status) : State := s.reply st (.partPhase s.partPhase)

/-- The decoder's checks on an order that names no circuit: length, part phase, fields (R162). -/
def State.takeOrder {α : Type} (s : State) (lengthOk : Bool) (phaseOk : PartPhase → Bool) (fields : Option α)
    (rule : α → State) : State :=
  if !lengthOk then s.refuse .malformed
  else if !phaseOk s.partPhase then s.refuse .wrongPartPhase
  else
    match fields with
    | none => s.refuse .malformed
    | some x => rule x

/-- The expected phase is ANY or the circuit's phase (R163). -/
def Circuit.meets (c : Circuit) (expected : Nat) : Bool := expected = 0 || expected = c.phase.code

/-- The decoder's checks on the circuit an order names: its number, then its expected phase (R162). -/
def State.takeNamed (s : State) (n : Named) (rule : Slot → State) : State :=
  match s.locate n.number with
  | none => s.reply .noSuchCircuit (.circuitNumber n.number)
  | some slot => if (s.circuit slot).meets n.expected then rule slot else s.replyPhase .stale slot

/-- The decoder's checks on a circuit order whose only fields are C (R162). -/
def State.takeCircuitOrder (s : State) (phaseOk : PartPhase → Bool) (f : List Byte) (rule : Slot → State) : State :=
  s.takeOrder (f.length = 3) phaseOk (readNamed f) fun n => s.takeNamed n rule

/-! ### Orders that are not taken (R160, R162) -/

/-- ORDER_DISCARDED (R160): select rises before the order's last byte: no effect and no reply. The reply holder keeps the earlier
reply, which is not shifted out again (R161). Bytes that hold a whole order are no such event (log entry 27). -/
def execOrderDiscarded (bytes : List Byte) (s : State) : Host.Outcome State Fault Refusal :=
  whenReleased s fun s => if wholeOrder bytes then s else s.setPort { s.port with replyStands := false }

/-- UNKNOWN_ORDER (R162): a kind that Table 12-1 does not list. A listed kind is no such event (log entry 27). -/
def execUnknownOrder (kind : Byte) (_fields : List Byte) (s : State) : Host.Outcome State Fault Refusal :=
  whenReleased s fun s => if listedKind kind then s else s.refuse .unknownOrder

/-! ### Configuration (R175 to R177) -/

/-- SET_PROFILE (R175, R176). -/
def execSetProfile (fields : List Byte) (s : State) : Host.Outcome State Fault Refusal :=
  whenReleased s fun s =>
    s.takeOrder (fields.length = 25) PartPhase.configOnly (readProfile fields) fun (ix, p) =>
      (s.setSettings { s.settings with profiles := s.settings.profiles.set ix.val p.clamped ix.isLt }).reply
        (if p.clamped = p then .done else .clamped) (.profile p.clamped)

/-- SET_STATION (R175, R176). -/
def execSetStation (fields : List Byte) (s : State) : Host.Outcome State Fault Refusal :=
  whenReleased s fun s =>
    s.takeOrder (fields.length = 11) PartPhase.configOnly (readStation fields) fun st =>
      (s.setSettings { s.settings with station := st.clamped }).reply
        (if st.clamped = st then .done else .clamped) (.station st.clamped)

/-- SET_SPAN (R175): nothing of it is clamped. -/
def execSetSpan (fields : List Byte) (s : State) : Host.Outcome State Fault Refusal :=
  whenReleased s fun s =>
    s.takeOrder (fields.length = 6) PartPhase.configOnly (readSpanSettings fields) fun (sp, g) =>
      (s.setSettings { s.settings with spans := s.settings.spans.set sp.val g sp.isLt }).reply .done (.span g)

/-- Two spans have the same base. -/
def Settings.baseRepeated (g : Settings) : Bool :=
  g.spans[0].base = g.spans[1].base || g.spans[0].base = g.spans[2].base || g.spans[1].base = g.spans[2].base

/-- The first of GO's four checks that fails (R177). -/
def State.goFault (s : State) : Option BadConfig :=
  if s.ring ≤ s.station.val then some .stationOutsideRing
  else if s.settings.spans.any (fun g => g.base % 16 ≠ 0) then some .baseUnaligned
  else if s.settings.baseRepeated then some .baseRepeated
  else if s.settings.spans.all (fun g => g.equipped = 0) then some .noneEquipped
  else none

/-- GO (R177): BAD-CONFIG, or the entry to STARTING. -/
def execGo (fields : List Byte) (s : State) : Host.Outcome State Fault Refusal :=
  whenReleased s fun s =>
    s.takeOrder (fields.length = 0) PartPhase.configOnly (some ()) fun _ =>
      match s.goFault with
      | some d => s.reply .badConfig (.detail d)
      | none => s.enterStarting.reply .done (.partPhase .starting)

/-- RESTART (R180). -/
def execRestart (fields : List Byte) (s : State) : Host.Outcome State Fault Refusal :=
  whenReleased s fun s =>
    s.takeOrder (fields.length = 0) PartPhase.signals (some ()) fun _ =>
      s.dropWork.enterStarting.reply .done (.partPhase .starting)

/-! ### Read orders (R165 to R167) -/

/-- The values READ-CONFIG selects (R166). -/
def State.configBody (s : State) : Selector → ReplyBody
  | .profile ix => .profile s.settings.profiles[ix]
  | .span sp => .span (s.spanSettings sp)
  | .station => .stationNumbered s.settings.station s.station

/-- READ_CONFIG (R166). -/
def execReadConfig (fields : List Byte) (s : State) : Host.Outcome State Fault Refusal :=
  whenReleased s fun s =>
    s.takeOrder (fields.length = 1) PartPhase.anyPhase (readSelector (byteAt fields 0)) fun sel =>
      s.reply .done (s.configBody sel)

/-- The number of circuits in the resync set. -/
def Reports.resyncCount (r : Reports) : Nat := allSlots.countP fun x => r.resync.getLsbD x.val

/-- What READ-STATUS returns (R166). -/
def State.statusReply (s : State) : StatusReply :=
  { partPhase := s.partPhase, busState := s.bus.state, checkErrors := s.bus.checkErrors, free := s.hunt.free,
    level := s.hunt.level, occupied := s.occupiedCount, queued := s.reports.queue.length, resync := s.reports.resyncCount,
    viewChanged := s.reports.viewChanged, spans := s.spans.map fun g => (g.condition, g.quiesce) }

/-- READ_STATUS (R166). -/
def execReadStatus (fields : List Byte) (s : State) : Host.Outcome State Fault Refusal :=
  whenReleased s fun s =>
    s.takeOrder (fields.length = 0) PartPhase.anyPhase (some ()) fun _ => s.reply .done (.status s.statusReply)

/-- The records of the neighbour view in ascending station number (R166). -/
def Bus.viewRecords (b : Bus) : List (Station × ViewRecord) :=
  (List.finRange 8).filterMap fun st => b.view[st].map fun v => (st, v)

/-- READ_VIEW (R166). -/
def execReadView (fields : List Byte) (s : State) : Host.Outcome State Fault Refusal :=
  whenReleased s fun s =>
    s.takeOrder (fields.length = 0) PartPhase.anyPhase (some ()) fun _ => s.reply .done (.view s.bus.viewRecords)

/-- CLEAR_ERRORS (R167): the counter becomes 0; the reply carries its value just before. -/
def execClearErrors (fields : List Byte) (s : State) : Host.Outcome State Fault Refusal :=
  whenReleased s fun s =>
    s.takeOrder (fields.length = 0) PartPhase.anyPhase (some ()) fun _ =>
      (s.setBus { s.bus with checkErrors := 0 }).reply .done (.checkErrors s.bus.checkErrors)

/-- READ_CIRCUIT (R165). -/
def execReadCircuit (fields : List Byte) (s : State) : Host.Outcome State Fault Refusal :=
  whenReleased s fun s =>
    s.takeCircuitOrder PartPhase.signals fields fun slot => s.reply .done (.circuit (s.circuit slot))

/-! ### FETCH-REPORT (R171, R172) -/

/-- Insert a number into an ascending list. -/
def insertAscending (n : Nat) : List Nat → List Nat
  | [] => [n]
  | m :: rest => if n ≤ m then n :: m :: rest else m :: insertAscending n rest

/-- The circuit numbers of the resync set in ascending order (R171). -/
def State.resyncNumbers (s : State) : List Nat :=
  ((allSlots.filter fun x => s.reports.resync.getLsbD x.val).map s.circuitNumber).foldr insertAscending []

/-- The RESYNC test of a FETCH-REPORT (R171). -/
def State.resyncTest (s : State) : State :=
  if s.reports.queue.length ≤ Config.resyncAt ∧ (s.reports.resync ≠ 0 ∨ s.reports.viewChanged = true) then
    let r := { s.report .resync with circuits := some s.resyncNumbers, viewChanged := s.reports.viewChanged }
    s.setReports { queue := s.reports.queue ++ [r], resync := 0, viewChanged := false }
  else s

/-- A fetched hunt outcome frees its slot: the ENDED slot of its reference (R98, R172, log entry 32). -/
def State.freeFetched (s : State) (r : Report) : State :=
  if r.kind.ofHunt then
    match (List.finRange 16).find? fun ix => (s.huntSlot ix).state = .ended && (s.huntSlot ix).reference = r.reference with
    | some ix => s.putHuntSlot ix HuntSlot.reset
    | none => s
  else s

/-- FETCH_REPORT (R172). -/
def execFetchReport (fields : List Byte) (s : State) : Host.Outcome State Fault Refusal :=
  whenReleased s fun s =>
    s.takeOrder (fields.length = 0) PartPhase.anyPhase (some ()) fun _ =>
      match s.reports.queue with
      | [] => s.reply .empty .none
      | r :: rest => ((s.setReportQueue rest).freeFetched r).resyncTest.reply .done (.report r)

/-! ### The hunt unit's orders (R99, R110) -/

/-- The length of HUNT: 6 and the packed digits, at most 12 bytes (Table 12-1). -/
def huntLength (n : Nat) : Bool := 6 ≤ n && n ≤ 18

/-- HUNT (R99). -/
def execHunt (fields : List Byte) (s : State) : Host.Outcome State Fault Refusal :=
  whenReleased s fun s =>
    s.takeOrder (huntLength fields.length) PartPhase.runOnly (readHunt fields) s.huntOrder

/-- CANCEL (R110). -/
def execCancel (fields : List Byte) (s : State) : Host.Outcome State Fault Refusal :=
  whenReleased s fun s =>
    s.takeOrder (fields.length = 2) PartPhase.runOnly (some (BitVec.ofNat 16 (wordAt fields 0))) s.cancelOrder

/-! ### The span supervisor's orders (R156, R158) -/

/-- QUIESCE_SPAN (R156). -/
def execQuiesceSpan (fields : List Byte) (s : State) : Host.Outcome State Fault Refusal :=
  whenReleased s fun s =>
    s.takeOrder (fields.length = 1) PartPhase.runOnly (readSpan (byteAt fields 0)) fun sp =>
      let t := s.quiesceSpan sp
      t.reply .done (.quiesce (t.span sp).quiesce)

/-- RESUME_SPAN (R158). -/
def execResumeSpan (fields : List Byte) (s : State) : Host.Outcome State Fault Refusal :=
  whenReleased s fun s =>
    s.takeOrder (fields.length = 1) PartPhase.runOnly (readSpan (byteAt fields 0)) fun sp =>
      let t := s.resumeSpan sp
      t.reply .done (.quiesce (t.span sp).quiesce)

/-! ### Register signalling orders (R67, R68, R77) -/

/-- The length of ADD-DIGITS: 5 and the packed digits, at most 12 bytes (Table 12-1). -/
def addLength (n : Nat) : Bool := 5 ≤ n && n ≤ 17

/-- The record after an ADD-DIGITS that is taken (R67, R68): the digits that fit are appended and the complete flag set as
ordered; in DIGIT-WAIT the next forward item goes out, if there is one. -/
def State.addedRecord (s : State) (slot : Slot) (a : AddFields) : Circuit :=
  let c := s.circuit slot
  let q := c.call.send
  let d : Circuit :=
    { c with call := { c.call with send := { q with
        digits := q.digits ++ a.digits.take (Config.maxDigits - q.digits.length)
        complete := q.complete || a.complete } } }
  if c.phase = .outRegister ∧ c.call.step = some .digitWait
      ∧ (q.digits.length < d.call.send.digits.length ∨ d.call.send.complete = true) then s.nextItem slot d
  else d

/-- The effect of ADD-DIGITS (R67). -/
def State.addDigits (s : State) (slot : Slot) (a : AddFields) : State :=
  let c := s.circuit slot
  if (c.phase = .outSeizing ∨ c.phase = .outRegister) ∧ c.call.send.complete = false then
    let accepted := (a.digits.take (Config.maxDigits - c.call.send.digits.length)).length
    let d := s.addedRecord slot a
    (s.putCircuit slot d).reply (if accepted < a.digits.length then .truncated else .done)
      (.phaseStepCount d.phase d.call.step accepted)
  else s.replyPhase .notAllowed slot

/-- ADD_DIGITS (R67). -/
def execAddDigits (fields : List Byte) (s : State) : Host.Outcome State Fault Refusal :=
  whenReleased s fun s =>
    s.takeOrder (addLength fields.length) PartPhase.runOnly (readAddDigits fields) fun (n, a) =>
      s.takeNamed n fun slot => s.addDigits slot a

/-- REPEAT-LAST takes back the item now on the line, read from the accepted code: the buffer after it, and the code then put on the
line (R77). DESIGN CHOICE: with 1 to 4 accepted and last response SEND-CATEGORY, SEND-CATEGORY goes on the line also where no
received category is held (log entry 44). -/
def takeBack (accepted : Code) (b : ReceiveBuffer) : ReceiveBuffer × Code :=
  if accepted = 11 then ({ b with endReceived := false }, 3)
  else if 1 ≤ accepted.val ∧ accepted.val ≤ 4 ∧ b.lastResponse = some 5 then ({ b with category := none }, 5)
  else if 1 ≤ accepted.val ∧ accepted.val ≤ 10 then ({ b with digits := b.digits.dropLast }, 3)
  else (b, 3)

/-- The buffer after the response's effect, and the code put on the line (R77). -/
def responseEffect (accepted : Code) (b : ReceiveBuffer) (response : Code) : ReceiveBuffer × Code :=
  if response = 3 then takeBack accepted b
  else if response = 4 then ({ b with digits := [], endReceived := false }, 4)
  else (b, response)

/-- The limit after an extension: the digits then in the buffer plus m, at most 24; absent, unchanged (R77). -/
def extendLimit (b : ReceiveBuffer) (extension : Option Nat) : ReceiveBuffer :=
  match extension with
  | some m => { b with limit := min (b.digits.length + m) Config.maxDigits }
  | none => b

/-- The effect of RESPOND (R77). -/
def State.respondOrder (s : State) (slot : Slot) (r : RespondFields) : State :=
  let c := s.circuit slot
  if c.phase = .inRegister ∧ c.call.step = some .hostWait then
    let e := responseEffect c.recog.accepted c.call.buffer r.response
    let d : Circuit := { c with call := { c.call with buffer := extendLimit e.1 r.extension } }
    let t := s.putCircuit slot (s.respondRecord slot d e.2)
    t.replyPhase .done slot
  else s.replyPhase .notAllowed slot

/-- RESPOND (R77). -/
def execRespond (fields : List Byte) (s : State) : Host.Outcome State Fault Refusal :=
  whenReleased s fun s =>
    s.takeOrder (fields.length = 5) PartPhase.runOnly (readRespond fields) fun (n, r) =>
      s.takeNamed n fun slot => s.respondOrder slot r

/-! ### Call orders (R37, R39, R47, R54) -/

/-- IN-REGISTER, step RESPONDING, after COMPLETE-CHARGE or COMPLETE-FREE (R37). -/
def Circuit.completing (c : Circuit) : Bool :=
  c.phase = .inRegister && c.call.step = some .responding
    && (c.call.buffer.lastResponse = some 6 || c.call.buffer.lastResponse = some 7)

/-- Write a circuit and answer DONE with the phase and step it then holds (R30). -/
def State.putAndReply (s : State) (slot : Slot) (c : Circuit) : State := (s.putCircuit slot c).replyPhase .done slot

/-- The effect of ANSWER (R37). -/
def State.answerOrder (s : State) (slot : Slot) : State :=
  let c := s.circuit slot
  if c.phase = .inAwaitAnswer ∨ c.phase = .inClearedBack then
    s.putAndReply slot { c with phase := .inAnswered, timer := none }
  else if c.completing then s.putAndReply slot { c with call := { c.call with answerPending := true } }
  else s.replyPhase .notAllowed slot

/-- ANSWER (R37). -/
def execAnswer (fields : List Byte) (s : State) : Host.Outcome State Fault Refusal :=
  whenReleased s fun s => s.takeCircuitOrder PartPhase.runOnly fields s.answerOrder

/-- The effect of CLEAR-BACK (R39). -/
def State.clearBackOrder (s : State) (slot : Slot) : State :=
  let c := s.circuit slot
  if c.phase = .inAnswered ∨ c.phase = .inAwaitAnswer then
    s.putAndReply slot { c with phase := .inClearedBack, timer := none }
  else if c.phase = .inRegister ∧ c.call.answerPending = true then
    s.putAndReply slot { c with call := { c.call with answerPending := false } }
  else s.replyPhase .notAllowed slot

/-- CLEAR_BACK (R39). -/
def execClearBack (fields : List Byte) (s : State) : Host.Outcome State Fault Refusal :=
  whenReleased s fun s => s.takeCircuitOrder PartPhase.runOnly fields s.clearBackOrder

/-- The effect of CLEAR-FORWARD (R47). -/
def State.clearForwardOrder (s : State) (slot : Slot) : State :=
  let c := s.circuit slot
  if c.phase.isOut ∧ c.phase ≠ .outReleasing then (s.clearForward slot cancelledByClearForward).replyPhase .done slot
  else s.replyPhase .notAllowed slot

/-- CLEAR_FORWARD (R47). -/
def execClearForward (fields : List Byte) (s : State) : Host.Outcome State Fault Refusal :=
  whenReleased s fun s => s.takeCircuitOrder PartPhase.runOnly fields s.clearForwardOrder

/-- The effect of RESET-CIRCUIT (R54). -/
def State.resetOrder (s : State) (slot : Slot) : State :=
  let c := s.circuit slot
  if c.phase = .unequipped ∨ c.phase = .restarting then s.replyPhase .notAllowed slot
  else
    let t := ((s.dropBound slot cancelledByReset).putCircuit slot (s.resettingRecord slot c)).settle slot c
    t.replyPhase .done slot

/-- RESET_CIRCUIT (R54). -/
def execResetCircuit (fields : List Byte) (s : State) : Host.Outcome State Fault Refusal :=
  whenReleased s fun s => s.takeCircuitOrder PartPhase.runOnly fields s.resetOrder

/-! ### Blocking (R90, R91) -/

/-- The effect of BLOCK (R90). -/
def State.blockOrder (s : State) (slot : Slot) : State :=
  let c := s.circuit slot
  ((s.putCircuit slot { c with hostBlock := true }).settle slot c).replyPhase .done slot

/-- BLOCK (R90). -/
def execBlock (fields : List Byte) (s : State) : Host.Outcome State Fault Refusal :=
  whenReleased s fun s => s.takeCircuitOrder PartPhase.runOnly fields s.blockOrder

/-- The last local block reason of an IDLE circuit leaves, and the far end's 12 stands (R91). -/
def Circuit.standsUnblocked (c : Circuit) : Bool :=
  c.phase = .idle && c.hostBlock && !c.quiesceBlock && c.recog.accepted = 12

/-- The effect of UNBLOCK (R91): HOST leaves; a standing 12 of an IDLE circuit whose set becomes empty is taken in the same
event. -/
def State.unblockOrder (s : State) (slot : Slot) : State :=
  let c := s.circuit slot
  let t := s.putCircuit slot { c with hostBlock := false }
  ((if c.standsUnblocked then t.incomingSeizure slot else t).settle slot c).replyPhase .done slot

/-- UNBLOCK (R91). -/
def execUnblock (fields : List Byte) (s : State) : Host.Outcome State Fault Refusal :=
  whenReleased s fun s => s.takeCircuitOrder PartPhase.runOnly fields s.unblockOrder

end Sys2Proof.Machine
end

