-- ==== Sys2Proof/Machine/Dispatch.lean ====
section
/-! DEFINITION. The meaning of each command. -/

namespace Sys2Proof.Machine

/-- One direct call of a meaning for each command. -/
def exec (i : Instr) (s : State) : Host.Outcome State Fault Refusal :=
  match i with
  | .resetInputAsserted => Sys2Proof.Machine.execResetInputAsserted s
  | .resetRelease straps => Sys2Proof.Machine.execResetRelease straps s
  | .completedMultiframe times codes valid => Sys2Proof.Machine.execCompletedMultiframe times codes valid s
  | .multiframeNotCompleted elapsed => Sys2Proof.Machine.execMultiframeNotCompleted elapsed s
  | .highwayLost => Sys2Proof.Machine.execHighwayLost s
  | .substituteMultiframe elapsed => Sys2Proof.Machine.execSubstituteMultiframe elapsed s
  | .sample slot => Sys2Proof.Machine.execSample slot s
  | .spanValidBit span => Sys2Proof.Machine.execSpanValidBit span s
  | .spanFailureAction slot => Sys2Proof.Machine.execSpanFailureAction slot s
  | .restorationAction slot => Sys2Proof.Machine.execRestorationAction slot s
  | .callLossAction slot => Sys2Proof.Machine.execCallLossAction slot s
  | .tickBoundary => Sys2Proof.Machine.execTickBoundary s
  | .ackExpiry slot => Sys2Proof.Machine.execAckExpiry slot s
  | .compelExpiryOutgoing slot => Sys2Proof.Machine.execCompelExpiryOutgoing slot s
  | .compelExpiryIncoming slot => Sys2Proof.Machine.execCompelExpiryIncoming slot s
  | .digitTimeout slot => Sys2Proof.Machine.execDigitTimeout slot s
  | .responseTimeout slot => Sys2Proof.Machine.execResponseTimeout slot s
  | .noAnswer slot => Sys2Proof.Machine.execNoAnswer slot s
  | .forcedRelease slot => Sys2Proof.Machine.execForcedRelease slot s
  | .releaseExpiryReleasing slot => Sys2Proof.Machine.execReleaseExpiryReleasing slot s
  | .releaseExpiryResetting slot => Sys2Proof.Machine.execReleaseExpiryResetting slot s
  | .noClearForward slot => Sys2Proof.Machine.execNoClearForward slot s
  | .guardExpiry slot => Sys2Proof.Machine.execGuardExpiry slot s
  | .restartExpiry slot => Sys2Proof.Machine.execRestartExpiry slot s
  | .holdTimeExpiry span => Sys2Proof.Machine.execHoldTimeExpiry span s
  | .offerTimeExpiry tag => Sys2Proof.Machine.execOfferTimeExpiry tag s
  | .announceExpiry => Sys2Proof.Machine.execAnnounceExpiry s
  | .seizeCommand => Sys2Proof.Machine.execSeizeCommand s
  | .seizeCommandOutcome => Sys2Proof.Machine.execSeizeCommandOutcome s
  | .requestReturn slot => Sys2Proof.Machine.execRequestReturn slot s
  | .dispatch => Sys2Proof.Machine.execDispatch s
  | .busFrameReceived line => Sys2Proof.Machine.execBusFrameReceived line s
  | .offerReceived => Sys2Proof.Machine.execOfferReceived s
  | .grantReceived => Sys2Proof.Machine.execGrantReceived s
  | .exhaustedReceived => Sys2Proof.Machine.execExhaustedReceived s
  | .withdrawReceived => Sys2Proof.Machine.execWithdrawReceived s
  | .frameTransmit line readBack => Sys2Proof.Machine.execFrameTransmit line readBack s
  | .acknowledgeSlot level => Sys2Proof.Machine.execAcknowledgeSlot level s
  | .originOfferOutcome => Sys2Proof.Machine.execOriginOfferOutcome s
  | .forwardedOfferOutcome => Sys2Proof.Machine.execForwardedOfferOutcome s
  | .grantOutcome => Sys2Proof.Machine.execGrantOutcome s
  | .busStuck line => Sys2Proof.Machine.execBusStuck line s
  | .busRecovered line => Sys2Proof.Machine.execBusRecovered line s
  | .orderDiscarded bytes => Sys2Proof.Machine.execOrderDiscarded bytes s
  | .unknownOrder kind fields => Sys2Proof.Machine.execUnknownOrder kind fields s
  | .setProfile fields => Sys2Proof.Machine.execSetProfile fields s
  | .setStation fields => Sys2Proof.Machine.execSetStation fields s
  | .setSpan fields => Sys2Proof.Machine.execSetSpan fields s
  | .go fields => Sys2Proof.Machine.execGo fields s
  | .readConfig fields => Sys2Proof.Machine.execReadConfig fields s
  | .readStatus fields => Sys2Proof.Machine.execReadStatus fields s
  | .readView fields => Sys2Proof.Machine.execReadView fields s
  | .fetchReport fields => Sys2Proof.Machine.execFetchReport fields s
  | .clearErrors fields => Sys2Proof.Machine.execClearErrors fields s
  | .restart fields => Sys2Proof.Machine.execRestart fields s
  | .readCircuit fields => Sys2Proof.Machine.execReadCircuit fields s
  | .hunt fields => Sys2Proof.Machine.execHunt fields s
  | .cancel fields => Sys2Proof.Machine.execCancel fields s
  | .quiesceSpan fields => Sys2Proof.Machine.execQuiesceSpan fields s
  | .resumeSpan fields => Sys2Proof.Machine.execResumeSpan fields s
  | .addDigits fields => Sys2Proof.Machine.execAddDigits fields s
  | .respond fields => Sys2Proof.Machine.execRespond fields s
  | .answer fields => Sys2Proof.Machine.execAnswer fields s
  | .clearBack fields => Sys2Proof.Machine.execClearBack fields s
  | .clearForward fields => Sys2Proof.Machine.execClearForward fields s
  | .block fields => Sys2Proof.Machine.execBlock fields s
  | .unblock fields => Sys2Proof.Machine.execUnblock fields s
  | .resetCircuit fields => Sys2Proof.Machine.execResetCircuit fields s

end Sys2Proof.Machine
end

