-- ==== Sys2Proof/Machine/Transaction.lean ====
section
/-! DEFINITION. The bytes of a transaction of the order port and the order they stand for (R160, R181, Table 12-1). -/

namespace Sys2Proof.Machine

/-- Table 12-1: the order of a kind byte, given its field bytes. -/
def orderOfKind (kind : Nat) (fields : List Byte) : Option Instr :=
  match kind with
  | 1 => some (.setProfile fields)
  | 2 => some (.setStation fields)
  | 3 => some (.setSpan fields)
  | 4 => some (.go fields)
  | 5 => some (.readConfig fields)
  | 6 => some (.readStatus fields)
  | 7 => some (.readView fields)
  | 8 => some (.fetchReport fields)
  | 9 => some (.clearErrors fields)
  | 10 => some (.restart fields)
  | 11 => some (.readCircuit fields)
  | 12 => some (.hunt fields)
  | 13 => some (.cancel fields)
  | 14 => some (.quiesceSpan fields)
  | 15 => some (.resumeSpan fields)
  | 16 => some (.addDigits fields)
  | 17 => some (.respond fields)
  | 18 => some (.answer fields)
  | 19 => some (.clearBack fields)
  | 20 => some (.clearForward fields)
  | 21 => some (.block fields)
  | 22 => some (.unblock fields)
  | 23 => some (.resetCircuit fields)
  | _ => none

/-- The command of a whole order: that of its kind, or an unknown order (R162). -/
def orderCommand (kind : Byte) (fields : List Byte) : Instr :=
  (orderOfKind kind.toNat fields).getD (.unknownOrder kind fields)

/-- The command that the bytes clocked in while select is low stand for: kind, length and as many field bytes as the length
gives; bytes after the order's last byte are ignored, and fewer are a discarded order (R160). -/
def readTransaction (bytes : List Byte) : Instr :=
  match bytes with
  | kind :: len :: rest =>
    if len.toNat ≤ rest.length then orderCommand kind (rest.take len.toNat) else .orderDiscarded bytes
  | [] => .orderDiscarded []
  | [kind] => .orderDiscarded [kind]

end Sys2Proof.Machine
end

