-- ==== Sys2Proof/Safety.lean ====
section
/-! DEFINITION. What a safe state is: the invariants that the rules claim of every state the part can be in, and the words in
which the statements about commands are said. -/

namespace Sys2Proof.Machine

/-! ### Words of the statements: samples and timers -/

/-- The next sample handed to the slot's recognizer (R1). -/
abbrev State.NextSample (s : State) (slot : Slot) (e : SampleEvent) : Prop :=
  s.events.samples.find? (fun e => e.slot = slot) = some e

/-- The state once that sample has been taken from those handed over. -/
def State.sampleTaken (s : State) (slot : Slot) : State :=
  s.setEvents { s.events with samples := s.events.samples.eraseP (fun e => e.slot = slot) }

/-- The next sample of the slot completes the acceptance of `x`: it is valid, equals the candidate, and takes the count to the
threshold (R17, R18). -/
abbrev State.Accepts (s : State) (slot : Slot) (x : Code) : Prop :=
  s.NextSample slot { slot := slot, code := some x, valid := true }
    ∧ (s.circuit slot).recog.candidate = x ∧ (s.circuit slot).recog.accepted ≠ x
    ∧ threshold (s.profile slot) (s.circuit slot).phase x ≤ (s.circuit slot).recog.count + 1

/-- The recognizer that has accepted `x` (R18). -/
def Recognizer.holding (x : Code) : Recognizer := { accepted := x, candidate := x, count := 0 }

/-- The circuit's record once its recognizer has accepted `x`. -/
def State.heard (s : State) (slot : Slot) (x : Code) : Circuit := { s.circuit slot with recog := Recognizer.holding x }

/-- The state once the slot's next sample has been taken and its recognizer has accepted `x`; the accepted change is not yet
handled. -/
def State.accepted (s : State) (slot : Slot) (x : Code) : State := (s.sampleTaken slot).writeCircuit slot (s.heard slot x)

/-- The circuit timer of this purpose has expired and its expiry is the next event at the circuit (R9, R10). -/
abbrev State.Expired (s : State) (slot : Slot) (p : Purpose) : Prop :=
  (s.circuit slot).timer = some { purpose := p, remaining := 0, paused := false }

/-- A timer started at a circuit of the slot's span with a value: paused on a FAILED span (R152). -/
def State.started (s : State) (slot : Slot) (p : Purpose) (value : Nat) : Option CircuitTimer :=
  some { purpose := p, remaining := value, paused := s.failed (spanOf slot) }

/-! ### Words of the statements: circuit records, each with its send code written out -/

/-- A record in OUT-RELEASING: 0 sent, the step and the pending request gone, RELEASE started (R47). -/
def State.releasing (s : State) (slot : Slot) (c : Circuit) : Circuit :=
  { c with
    phase := .outReleasing
    sendCode := 0
    call := { c.call with step := none, bound := none, send := { c.call.send with request := none } }
    timer := s.started slot .release (s.profile slot).release }

/-- A record in RESETTING: 0 sent, call fields at reset, RELEASE started (R54). -/
def State.resettingAt (s : State) (slot : Slot) (c : Circuit) : Circuit :=
  { c with
    phase := .resetting
    sendCode := 0
    call := CallFields.reset
    timer := s.started slot .release (s.profile slot).release }

/-- A record in LOCKOUT: 14 sent, call fields at reset, no timer (R53). -/
def Circuit.lockedOut (c : Circuit) : Circuit :=
  { c with phase := .lockout, sendCode := 14, call := CallFields.reset, timer := none }

/-- What an IDLE circuit sends: 14 with a local block reason or on a span FAILED under DEFAULT, else 0 (R7, R8). -/
def State.freeCode (s : State) (slot : Slot) (blocked : Bool) : Code :=
  if blocked || (s.failed (spanOf slot) && (s.profile slot).policy = .default) then 14 else 0

/-- The circuit takes the QUIESCE reason as it reaches IDLE (R157). -/
def State.quiescing (s : State) (slot : Slot) : Bool := s.equipped slot && (s.span (spanOf slot)).quiesce ≠ .none

/-- A record that has reached IDLE: call fields at reset, no timer, the QUIESCE reason taken on a quiescing span, the free
circuit's code sent (R27, R157). -/
def State.freed (s : State) (slot : Slot) (c : Circuit) : Circuit :=
  { c with
    phase := .idle
    sendCode := s.freeCode slot (c.hostBlock || (c.quiesceBlock || s.quiescing slot))
    quiesceBlock := c.quiesceBlock || s.quiescing slot
    call := CallFields.reset
    timer := none }

/-- A receive buffer at an incoming seizure: empty, with the profile's auto-request limit (R35). -/
def State.emptyBuffer (s : State) (slot : Slot) : ReceiveBuffer :=
  { digits := [], endReceived := false, category := none, limit := (s.profile slot).autoRequest, lastResponse := none }

/-- A record that takes an incoming seizure: IN-REGISTER, AWAIT-SIGNAL, PROCEED sent, COMPEL started (R35). -/
def State.seized (s : State) (slot : Slot) (c : Circuit) : Circuit :=
  { c with
    phase := .inRegister
    sendCode := 1
    call := { c.call with owner := some .incoming, step := some .awaitSignal, buffer := s.emptyBuffer slot }
    timer := s.started slot .compel (s.profile slot).compel }

/-- A record after sending the next forward item (R59). -/
def State.itemSent (s : State) (slot : Slot) (c : Circuit) : Circuit :=
  let q := c.call.send
  match q.digits[q.pointer]? with
  | some d =>
    { c with
      sendCode := digitCode d
      call := { c.call with
        step := some .signalOn
        send := { q with last := .digit q.pointer, pointer := q.pointer + 1 } }
      timer := s.started slot .compel (s.profile slot).compel }
  | none =>
    if q.complete then
      { c with
        sendCode := 11
        call := { c.call with step := some .signalOn, send := { q with last := .endOfAddress } }
        timer := s.started slot .compel (s.profile slot).compel }
    else
      { c with
        sendCode := 12
        call := { c.call with step := some .digitWait }
        timer := s.started slot .digit (s.profile slot).digit }

/-- A record with a response put on the line: step RESPONDING, COMPEL started (R74, R77, R79). -/
def State.answering (s : State) (slot : Slot) (c : Circuit) (response : Code) : Circuit :=
  { c with
    sendCode := response
    call := { c.call with
      step := some .responding
      buffer := { c.call.buffer with lastResponse := some response } }
    timer := s.started slot .compel (s.profile slot).compel }

/-- A record that has entered HOST-WAIT with a buffer: 1 still sent, RESPONSE started (R76). -/
def State.waiting (s : State) (slot : Slot) (c : Circuit) (b : ReceiveBuffer) : Circuit :=
  { c with
    sendCode := 1
    call := { c.call with step := some .hostWait, buffer := b }
    timer := s.started slot .response (s.profile slot).response }

/-- The DIGITS report of a record in HOST-WAIT (R76). -/
def State.digitsOf (s : State) (slot : Slot) (c : Circuit) : Report :=
  { s.report .digits with
    circuit := some (s.circuitNumber slot)
    phase := some (.inRegister, some .hostWait)
    detail1 := flag c.call.buffer.endReceived
    category := c.call.buffer.category
    digits := some c.call.buffer.digits }

/-- A circuit report of one detail, with the phase and step afterwards (Tables 10-4 and 12-4). -/
def State.says (s : State) (k : ReportKind) (slot : Slot) (after : Circuit) (detail : Nat) : Report :=
  { s.report k with
    circuit := some (s.circuitNumber slot)
    phase := some (after.phase, after.call.step)
    detail1 := detail }

/-! ### Words of the statements: the offer table -/

/-- The queued frame is this station's own OFFER of this tag. -/
def State.isOfferOf (s : State) (tag : Tag) (q : Queued) : Bool :=
  match q.frame.body with
  | .offer o => o.origin = s.station && o.tag = tag
  | _ => false

/-- The state without a live entry: it has left the table, and with delivery pending its OFFER frame has left the send queue, or
is marked as dropped while it is being sent (R136). -/
def State.withoutEntry (s : State) (e : OfferEntry) : State :=
  { s with
    offers := { s.offers with table := s.offers.table.filter fun x => x.tag ≠ e.tag }
    bus :=
      if e.pending then
        { s.bus with
          queue := (s.bus.queue.filter fun q => !s.isOfferOf e.tag q || q.sending).map fun q =>
            if s.isOfferOf e.tag q then { q with dropped := true } else q }
      else s.bus }

/-! ### Words of the statements: entries of the accepted codes, and orders -/

/-- Table 3-4 and R64, R73, R76, R80: the accepted codes that have an entry, by phase and step; those of UNEQUIPPED, RESTARTING
and LOCKOUT are not handled, so none is unexpected there. -/
def Circuit.expects (c : Circuit) (x : Code) : Bool :=
  match c.phase with
  | .unequipped | .restarting | .lockout => true
  | .idle => x = 0 || x = 12 || x = 14
  | .outSeizing => x = 1 || x = 12 || x = 14
  | .outRegister =>
    x = 8 || x = 9 || x = 10
      || (c.call.step = some .signalOn && 2 ≤ x.val && x.val ≤ 7)
      || (c.call.step = some .signalOff && c.call.send.request.isSome && x = 1)
      || (c.call.step = some .signalOff && (c.call.send.request = some 6 || c.call.send.request = some 7) && x = 11)
  | .outAwaitAnswer => x = 11 || x = 12
  | .outAnswered => x = 12
  | .outClearedBack => x = 11
  | .outReleasing => x = 0 || x = 13 || x = 14
  | .inRegister =>
    x = 0
      || (c.call.step = some .awaitSignal && x.val ≤ 12)
      || (c.call.step = some .responding && x = 12
        && (match c.call.buffer.lastResponse with | some r => 2 ≤ r.val && r.val ≤ 7 | none => false))
  | .inAwaitAnswer | .inAnswered | .inClearedBack | .inFailed => x = 0
  | .inGuard => x = 0 || x = 12 || x = 14
  | .resetting => x = 0 || x = 14

/-- The bytes of the circuit number and an expected phase code (12.1). -/
def namedBytes (n expected : Nat) : List Byte := wordOf n ++ byteOf expected

/-- The order names the circuit of a slot, with ANY or its phase expected (R162, R163). -/
abbrev State.Names (s : State) (f : List Byte) (slot : Slot) : Prop :=
  s.locate (wordAt f 0) = some slot ∧ byteAt f 2 ≤ 17
    ∧ (byteAt f 2 = 0 ∨ byteAt f 2 = (s.circuit slot).phase.code)

/-- The length of an order is one Table 12-1 gives for its kind; `none` for a command that is no listed order. -/
def lengthFits : Instr → Option Bool
  | .setProfile f => some (f.length = 25)
  | .setStation f => some (f.length = 11)
  | .setSpan f => some (f.length = 6)
  | .go f | .readStatus f | .readView f | .fetchReport f | .clearErrors f | .restart f => some (f.length = 0)
  | .readConfig f | .quiesceSpan f | .resumeSpan f => some (f.length = 1)
  | .cancel f => some (f.length = 2)
  | .readCircuit f | .answer f | .clearBack f | .clearForward f | .block f | .unblock f | .resetCircuit f =>
    some (f.length = 3)
  | .hunt f => some (6 ≤ f.length && f.length ≤ 18)
  | .addDigits f => some (5 ≤ f.length && f.length ≤ 17)
  | .respond f => some (f.length = 5)
  | _ => none

/-- Table 10-2: the part phases that take an order. -/
def takenIn (p : PartPhase) : Instr → Bool
  | .setProfile _ | .setStation _ | .setSpan _ | .go _ => p = .config
  | .restart _ | .readCircuit _ => p = .starting || p = .run
  | .hunt _ | .cancel _ | .quiesceSpan _ | .resumeSpan _ | .addDigits _ | .respond _ | .answer _ | .clearBack _
  | .clearForward _ | .block _ | .unblock _ | .resetCircuit _ => p = .run
  | _ => true

/-- Tables 12-1 and 12-5 and R181: every field of an order lies in its range; values that are clamped have none to leave. -/
def fieldsFit : Instr → Bool
  | .setProfile f => byteAt f 0 ≤ 3 && byteAt f 23 ≤ 1
  | .setStation f => byteAt f 1 ≤ 2 && byteAt f 2 ≤ 1
  | .setSpan f => byteAt f 0 ≤ 2 && wordAt f 1 ≤ 1023 && byteAt f 5 ≤ 3
  | .readConfig f => byteAt f 0 ≤ 7
  | .quiesceSpan f | .resumeSpan f => byteAt f 0 ≤ 2
  | .hunt f => byteAt f 2 ≤ 3 && 1 ≤ byteAt f 3 && byteAt f 3 ≤ 4 && (readDigits (f.drop 5)).isSome
  | .readCircuit f | .answer f | .clearBack f | .clearForward f | .block f | .unblock f | .resetCircuit f => byteAt f 2 ≤ 17
  | .addDigits f => byteAt f 2 ≤ 17 && (readDigits (f.drop 4)).isSome
  | .respond f =>
    byteAt f 2 ≤ 17 && 2 ≤ byteAt f 3 && byteAt f 3 ≤ 10 && (byteAt f 4 ≤ 24 || byteAt f 4 = 255)
  | _ => true

/-- Table 10-2: the field bytes of an order that names a circuit; they begin with C (12.1). -/
def namesCircuit : Instr → Option (List Byte)
  | .readCircuit f | .answer f | .clearBack f | .clearForward f | .block f | .unblock f | .resetCircuit f => some f
  | .addDigits f | .respond f => some f
  | _ => none

/-- No 11 recessive bits in a row before the last bit of a line; `count` is the run before it (R115). -/
def neverIdle : Nat → List Bit → Bool
  | _, [] => true
  | count, b :: rest =>
    if b then (count + 1 ≠ Config.idleBits || rest.isEmpty) && neverIdle (count + 1) rest else neverIdle 0 rest

/-- The bits of a frame on the line up to the last bit of the check field, without a stuff bit after it: those the sender compares
(R120, log entry 20). -/
def RawFrame.compared (f : RawFrame) : List Bit := stuff 0 f.bits.dropLast ++ [f.bits.getLastD true]

/-- How many bits on the line belong to the start bit and the arbitration byte, with the stuff bits among them (R119). -/
def RawFrame.arbitration (f : RawFrame) : Nat := (stuff 0 (f.bits.take 8)).length + 1

/-- A directed frame whose fields lie in their ranges: at most 24 digits, a circuit number of 10 bits (Table 12-6). -/
def Directed.within (d : Directed) : Bool :=
  match d.body with
  | .offer o => o.digits.length ≤ Config.maxDigits
  | .grant _ n => n ≤ 1023
  | .exhausted _ => true
  | .withdraw _ n => n ≤ 1023

/-- A LEVEL frame whose fields lie in their ranges (Table 12-6). -/
def LevelFrame.within (f : LevelFrame) : Bool := f.free ≤ 48 && f.phase ≠ .config

/-! ### Circuit records (R27, R29, R58, R72) -/

/-- The steps of a phase (R57). -/
def stepFits (p : Phase) (t : Option RegStep) : Bool :=
  match p, t with
  | .outRegister, some .signalOn => true
  | .outRegister, some .signalOff => true
  | .outRegister, some .digitWait => true
  | .inRegister, some .awaitSignal => true
  | .inRegister, some .hostWait => true
  | .inRegister, some .responding => true
  | .outRegister, _ => false
  | .inRegister, _ => false
  | _, some _ => false
  | _, none => true

/-- The timer that may run in a phase (Table 3-2). -/
def timerFits (p : Phase) (q : Purpose) : Bool :=
  match p with
  | .outSeizing => q = .ack
  | .outRegister => q = .compel || q = .digit
  | .outAwaitAnswer => q = .answer
  | .outClearedBack => q = .clearback
  | .outReleasing => q = .release
  | .inRegister => q = .compel || q = .response
  | .inFailed => q = .release
  | .inGuard => q = .guardTime
  | .resetting => q = .release
  | .restarting => q = .restart
  | .unequipped | .idle | .outAnswered | .inAwaitAnswer | .inAnswered | .inClearedBack | .lockout => false

/-- The record's optional fields are present exactly in the phases R27 and Table 3-2 give: the owner in a call phase, the step in a
register phase, the bound request in OUT-SEIZING, call fields at reset outside the call phases, a timer of the phase's own
purposes. -/
def Circuit.shaped (c : Circuit) : Bool :=
  (if c.phase.isCall then c.call.owner.isSome else c.call = CallFields.reset)
    && stepFits c.phase c.call.step
    && (c.call.bound.isSome == (c.phase = .outSeizing))
    && (match c.timer with | some t => timerFits c.phase t.purpose | none => true)

/-- Every circuit record has its shape. -/
def State.Shaped (s : State) : Prop := ∀ slot, (s.circuit slot).shaped = true

/-- A send queue and a receive buffer within their bounds (R58, R72). -/
def CallFields.within (k : CallFields) : Bool :=
  k.send.pointer ≤ k.send.digits.length && k.send.digits.length ≤ Config.maxDigits
    && k.buffer.digits.length ≤ Config.maxDigits && k.buffer.limit ≤ Config.maxDigits

/-- A request carries at most 24 digits (R100). -/
def Request.within (q : Request) : Bool := q.digits.length ≤ Config.maxDigits

/-- The body of a directed frame carries at most 24 digits. -/
def FrameBody.digitsWithin (b : FrameBody) : Bool :=
  match b with
  | .offer o => o.digits.length ≤ Config.maxDigits
  | .grant _ _ | .exhausted _ | .withdraw _ _ => true

/-- A report carries at most 24 digits. -/
def Report.digitsWithin (r : Report) : Bool := (r.digits.getD []).length ≤ Config.maxDigits

/-- The circuit record or report in a reply carries at most 24 digits in each of its lists. -/
def ReplyBody.digitsWithin (b : ReplyBody) : Bool :=
  match b with
  | .circuit c => c.call.within
  | .report r => r.digitsWithin
  | _ => true

/-- Every digit list of the state holds at most 24 digits: those of the circuit records, of the requests in the hunt queue, in
dispatch and returned, of the offer table, of OFFER frames arrived, queued and with an outcome not yet taken, of the reports and of
the reply held. The pointer lies within the send queue, and auto-request limits are at most 24 (R58, R72, R100). -/
def State.DigitsWithin (s : State) : Prop :=
  (∀ slot, (s.circuit slot).call.within = true)
    ∧ (∀ q ∈ s.hunt.queue, q.within = true)
    ∧ (∀ d, s.hunt.dispatch = some d → d.request.within = true)
    ∧ (∀ e ∈ s.events.returned, e.request.within = true)
    ∧ (∀ a ∈ s.events.arrived, a.body.digitsWithin = true)
    ∧ (∀ o ∈ s.events.outcomes, o.frame.body.digitsWithin = true)
    ∧ (∀ e ∈ s.offers.table, e.digits.length ≤ Config.maxDigits)
    ∧ (∀ q ∈ s.bus.queue, q.frame.body.digitsWithin = true)
    ∧ (∀ r ∈ s.reports.queue, r.digitsWithin = true)
    ∧ (∀ r, s.port.reply = some r → r.body.digitsWithin = true)
    ∧ (∀ i : Fin 4, s.settings.profiles[i].autoRequest ≤ Config.maxDigits)

/-! ### Part phase, restarting count, free count -/

/-- In CONFIG every circuit is UNEQUIPPED (R26). -/
def State.ConfigBare (s : State) : Prop := s.partPhase = .config → ∀ slot, (s.circuit slot).phase = .unequipped

/-- F is the number of eligible circuits and L what the thresholds give for it (R103, R104). -/
def State.Counted (s : State) : Prop :=
  s.ConfigBare ∧ s.hunt.free = s.eligibleCount ∧ s.hunt.level = levelFor s.settings.station s.hunt.free

/-- The number of circuits in RESTARTING. -/
def State.restartingCount (s : State) : Nat := allSlots.countP fun x => (s.circuit x).phase = .restarting

/-- The restarting count is the number of circuits in RESTARTING; it is not 0 exactly in STARTING (R178, R179). -/
def State.RestartCounted (s : State) : Prop :=
  s.restarting = s.restartingCount ∧ (s.partPhase = .starting ↔ s.restarting ≠ 0)
    ∧ (s.partPhase ≠ .config → s.equippedCount ≠ 0)

/-! ### The sending table (R7, R8) -/

/-- Every circuit sends what the sending table gives, but for an IDLE circuit whose failure or restoration action is still to come
(R7, R8, R150, R155). -/
def State.SendsByTable (s : State) : Prop :=
  s.ConfigBare ∧ ∀ slot,
    (s.circuit slot).sendCode = s.sendingCode slot (s.circuit slot)
      ∨ ((s.circuit slot).phase = .idle ∧ ∃ a ∈ s.events.actions, a.slot = slot ∧ a.kind ≠ .callLoss)

/-! ### Recognizers, spans, settings -/

/-- The persistence values lie in 2..250 (R14). -/
def Profile.persistWithin (p : Profile) : Bool :=
  2 ≤ p.idlePersist && p.idlePersist ≤ 250 && 2 ≤ p.alarmPersist && p.alarmPersist ≤ 250
    && 2 ≤ p.registerPersist && p.registerPersist ≤ 250 && 2 ≤ p.linePersist && p.linePersist ≤ 250

/-- The count is at most 249, and 0 where the candidate is the accepted code (R13, R18). -/
def Recognizer.within (r : Recognizer) : Bool :=
  r.count ≤ 249 && (r.candidate ≠ r.accepted || r.count = 0)

/-- Persistence values and recognizers within their ranges. -/
def State.RecognizersWithin (s : State) : Prop :=
  (∀ i : Fin 4, s.settings.profiles[i].persistWithin = true) ∧ ∀ slot, (s.circuit slot).recog.within = true

/-- A span's run counter stays below the run that changes its condition, and only a FAILED span has a hold timer (R148, R150,
R155). -/
def Span.within (g : Span) : Bool :=
  match g.condition with
  | .inService => g.run < Config.failureRun && g.holdTimer.isNone
  | .failed => g.run < Config.restorationRun

/-- Every span record is within its bounds. -/
def State.SpansWithin (s : State) : Prop := ∀ sp, (s.span sp).within = true

/-! ### Queues and tables -/

/-- The hunt queue, the offer table and the send queue hold at most 8, 8 and 16 entries; live offers have distinct tags
(R101, R123, R130, R131). -/
def State.ListsWithin (s : State) : Prop :=
  s.hunt.queue.length ≤ Config.huntQueueLimit ∧ s.offers.table.length ≤ Config.offerTableLimit
    ∧ (s.offers.table.map OfferEntry.tag).Nodup ∧ s.bus.queue.length ≤ Config.sendQueueLimit

/-- A view record within its bounds: age at most 3, below 3 while present; free count at most 48; STARTING or RUN (Table 7-4,
R129). -/
def ViewRecord.within (v : ViewRecord) : Bool :=
  v.age ≤ Config.maxAge && (!v.present || v.age < Config.maxAge) && v.free ≤ 48 && v.phase ≠ .config

/-- The view holds no record in CONFIG, and one for each other station of the ring outside it (R128). -/
def State.ViewWithin (s : State) : Prop :=
  ∀ st : Station, match s.bus.view[st] with
    | none => s.partPhase = .config ∨ s.ring ≤ st.val ∨ st = s.station
    | some v => s.partPhase ≠ .config ∧ st.val < s.ring ∧ st ≠ s.station ∧ v.within = true

/-- The bus: SILENT exactly in CONFIG; no frame waits in SILENT or MUTE; attempt counts below 3; error counter and line counts
within their ranges (R115 to R117, R122 to R124). -/
def State.BusWithin (s : State) : Prop :=
  (s.bus.state = .silent ↔ s.partPhase = .config)
    ∧ (s.bus.state.carries = false → s.bus.queue = [] ∧ s.bus.levelSlot = none)
    ∧ (∀ q ∈ s.bus.queue, q.attempts < Config.attemptLimit)
    ∧ s.bus.checkErrors ≤ Config.checkErrorLimit
    ∧ s.bus.recessiveRun ≤ Config.idleBits ∧ s.bus.dominantRun ≤ Config.stuckBits

/-- The highway is PRESENT with a good run of 8 and less than 6 ms of silence, or LOST with a shorter good run (R3). -/
def State.HighwayWithin (s : State) : Prop :=
  if s.highway.present then s.highway.goodRun = Config.goodRunLimit ∧ s.highway.silence < Config.silenceLimit
  else s.highway.goodRun < Config.goodRunLimit

/-- The highway, recognizers, spans, the neighbour view and the bus within their ranges. -/
def State.RangesKept (s : State) : Prop :=
  s.ConfigBare ∧ s.HighwayWithin ∧ s.RecognizersWithin ∧ s.SpansWithin ∧ s.ViewWithin ∧ s.BusWithin

/-! ### Hunt slots and reports (R98, R109, R169) -/

/-- The references of the hunt outcomes in the report queue, oldest first. -/
def State.outcomeReferences (s : State) : List (Option Reference) :=
  (s.reports.queue.filter fun r => r.kind.ofHunt).map Report.reference

/-- The references of the ENDED slots. -/
def State.endedReferences (s : State) : List (Option Reference) :=
  ((List.finRange 16).filter fun ix => (s.huntSlot ix).state = .ended).map fun ix => (s.huntSlot ix).reference

/-- Slots and outcomes agree: a FREE slot holds nothing, an occupied one a reference no other occupied slot holds, the hunt
outcomes in the report queue are those of the ENDED slots, one each, in CONFIG every slot is FREE, and no slot is marked whose
circuit has taken the seize command in dispatch (R97, R98, R109, R112). -/
def State.SlotsAccounted (s : State) : Prop :=
  (∀ ix, (s.huntSlot ix).state = .free → s.huntSlot ix = HuntSlot.reset)
    ∧ (∀ ix, (s.huntSlot ix).state ≠ .free → (s.huntSlot ix).reference.isSome = true)
    ∧ (∀ i j, (s.huntSlot i).state ≠ .free → (s.huntSlot j).state ≠ .free →
        (s.huntSlot i).reference = (s.huntSlot j).reference → i = j)
    ∧ s.outcomeReferences.Perm s.endedReferences
    ∧ (s.partPhase = .config → ∀ ix, (s.huntSlot ix).state = .free)
    ∧ (∀ d ix r, s.hunt.dispatch = some d → d.stage = .taken → d.request.source = .ofHost ix r →
        (s.circuit d.circuit).seizingFor ix r = true → (s.huntSlot ix).holds r = true → (s.huntSlot ix).cancelMark = false)

/-- Reports of one kind of owner or class are as many as their rules allow: one entry a span, one of the bus,
DUPLICATE-STATION once and only in MUTE, RESTART-DONE once and only in RUN, at most 40 divertible ones (R126, R169, R170,
R179). -/
def State.ReportsCounted (s : State) : Prop :=
  (∀ sp, s.reports.queue.countP (fun r => r.kind.ofSpan && r.span = some sp) ≤ 1)
    ∧ (∀ r ∈ s.reports.queue, r.kind.ofSpan = true → r.span.isSome = true)
    ∧ s.reports.queue.countP (fun r => r.kind.ofBus) ≤ 1
    ∧ s.reports.queue.countP (fun r => r.kind = .duplicateStation) ≤ (if s.bus.state = .mute then 1 else 0)
    ∧ s.reports.queue.countP (fun r => r.kind = .restartDone) ≤ (if s.partPhase = .run then 1 else 0)
    ∧ s.reports.queue.countP (fun r => !r.kind.guaranteed) ≤ Config.divertAt

end Sys2Proof.Machine
end

