-- ==== Sys2Proof/Certificates/Slice0/Obligations.lean ====
section
/-! DEFINITION. The statements about the model, one `Obligations.<Name>` each; OBLIGATIONS.json lists them with the rules they
state. -/

open Sys2Proof Sys2Proof.Machine

/-- A step takes the command at the front of the queue, whole. Rules: R30, R160, 95_what_each_step_holds.md. -/
def Obligations.StepTakesFrontCommand : Prop :=
  ∀ (c : Instr) (rest : List Instr) (s : State), s.pending = c :: rest → step s = exec c (s.setPending rest)

/-- Reset: asserted, it holds every reset value; released, it enters CONFIG and latches the straps. Rules: R3, R12, R26,
R97, R116, R128, R130, R147, R161, R169, R174, Table 11-2. -/
def Obligations.ResetEntersConfig : Prop :=
  ∀ (s : State) (straps : Station),
    exec (.resetRelease straps) s = .next { State.reset with pending := s.pending, station := straps }
    ∧ exec .resetInputAsserted s = .next { State.reset with pending := s.pending, inReset := true }
    ∧ State.reset.partPhase = .config ∧ State.reset.tick = 0 ∧ State.reset.inReset = false
    ∧ (∀ slot, (State.reset.circuit slot).phase = .unequipped ∧ (State.reset.circuit slot).sendCode = 14
        ∧ (State.reset.circuit slot).recog = { accepted := 0, candidate := 0, count := 0 }
        ∧ (State.reset.circuit slot).hostBlock = false ∧ (State.reset.circuit slot).quiesceBlock = false
        ∧ (State.reset.circuit slot).remoteBlocked = false ∧ (State.reset.circuit slot).timer = none
        ∧ (State.reset.circuit slot).call.owner = none ∧ (State.reset.circuit slot).call.answerStamp = none)
    ∧ State.reset.highway.present = false ∧ State.reset.highway.goodRun = 0
    ∧ State.reset.bus.state = .silent ∧ State.reset.bus.queue = [] ∧ State.reset.bus.levelSlot = none
    ∧ State.reset.bus.checkErrors = 0 ∧ (∀ st : Station, State.reset.bus.view[st] = none)
    ∧ State.reset.hunt.free = 0 ∧ State.reset.hunt.level = none ∧ State.reset.hunt.queue = []
    ∧ State.reset.hunt.dispatch = none ∧ State.reset.hunt.rotation = none
    ∧ (∀ ix, (State.reset.huntSlot ix).state = .free)
    ∧ State.reset.offers.table = [] ∧ State.reset.offers.tagCounter = 0
    ∧ (∀ sp, State.reset.span sp = { condition := .inService, run := 0, quiesce := .none, holdTimer := none })
    ∧ State.reset.reports.queue = [] ∧ State.reset.reports.resync = 0 ∧ State.reset.reports.viewChanged = false
    ∧ State.reset.attention = false ∧ State.reset.port.reply = none
    ∧ (∀ i : Fin 4, State.reset.settings.profiles[i] =
        { idlePersist := 50, alarmPersist := 25, registerPersist := 4, linePersist := 10, ack := 200, compel := 1500,
          digit := 1000, response := 300, answer := 12000, clearback := 9000, release := 3000, guardTime := 60,
          holdTime := 1000, policy := .hold, autoRequest := 2 })
    ∧ (∀ sp, State.reset.spanSettings sp = { base := 16 * sp.val, equipped := 0xFFFF, profile := 0 })
    ∧ State.reset.settings.station =
        { ring := 1, method := .ascending, parity := .even, r1 := 0, r2 := 0, r3 := 0, announcePeriod := 50,
          offerTime := 500, restartTime := 200 }

/-- The reset state meets every invariant that the steps are said to keep. Rules: R7, R26, R27, R97, R103, R128, R147,
R169, R174. -/
def Obligations.ResetStateIsSound : Prop :=
  State.reset.Shaped ∧ State.reset.Counted ∧ State.reset.RestartCounted ∧ State.reset.SendsByTable
    ∧ State.reset.DigitsWithin ∧ State.reset.ListsWithin ∧ State.reset.RangesKept ∧ State.reset.SlotsAccounted
    ∧ State.reset.ReportsCounted

/-- The model's choice: a command whose event is not due changes nothing (log entries 1, 2, 6 and 7). Rules: R9, R17,
R102, R106, R174. -/
def Obligations.NoEventChangesNothing : Prop :=
  (∀ s : State, s.pending = [] → step s = .next s)
  ∧ (∀ (s : State) (c : Instr), s.inReset = true → c ≠ .resetInputAsserted → (∀ straps, c ≠ .resetRelease straps) →
      exec c s = .next s)
  ∧ (∀ (s : State) (slot : Slot), s.inReset = false →
      (¬ s.Expired slot .ack → exec (.ackExpiry slot) s = .next s)
      ∧ (¬ s.Expired slot .compel → exec (.compelExpiryOutgoing slot) s = .next s
          ∧ exec (.compelExpiryIncoming slot) s = .next s)
      ∧ (¬ s.Expired slot .digit → exec (.digitTimeout slot) s = .next s)
      ∧ (¬ s.Expired slot .response → exec (.responseTimeout slot) s = .next s)
      ∧ (¬ s.Expired slot .answer → exec (.noAnswer slot) s = .next s)
      ∧ (¬ s.Expired slot .clearback → exec (.forcedRelease slot) s = .next s)
      ∧ (¬ s.Expired slot .release → exec (.releaseExpiryReleasing slot) s = .next s
          ∧ exec (.releaseExpiryResetting slot) s = .next s ∧ exec (.noClearForward slot) s = .next s)
      ∧ (¬ s.Expired slot .guardTime → exec (.guardExpiry slot) s = .next s)
      ∧ (¬ s.Expired slot .restart → exec (.restartExpiry slot) s = .next s))
  ∧ (∀ (s : State) (slot : Slot), s.inReset = false →
      let next := (s.events.actions.find? fun a => a.slot = slot).map SpanAction.kind
      (next ≠ some .failure → exec (.spanFailureAction slot) s = .next s)
      ∧ (next ≠ some .restoration → exec (.restorationAction slot) s = .next s)
      ∧ (next ≠ some .callLoss → exec (.callLossAction slot) s = .next s))
  ∧ (∀ s : State, s.inReset = false → s.events = Events.none → s.hunt.dispatch = none → s.hunt.queue = [] →
      (∀ slot, exec (.sample slot) s = .next s ∧ exec (.spanFailureAction slot) s = .next s
        ∧ exec (.restorationAction slot) s = .next s ∧ exec (.callLossAction slot) s = .next s
        ∧ exec (.requestReturn slot) s = .next s)
      ∧ (∀ span, exec (.spanValidBit span) s = .next s)
      ∧ exec .dispatch s = .next s ∧ exec .seizeCommand s = .next s ∧ exec .seizeCommandOutcome s = .next s
      ∧ exec .offerReceived s = .next s ∧ exec .grantReceived s = .next s ∧ exec .exhaustedReceived s = .next s
      ∧ exec .withdrawReceived s = .next s ∧ exec .originOfferOutcome s = .next s
      ∧ exec .forwardedOfferOutcome s = .next s ∧ exec .grantOutcome s = .next s)

/-- Multiframes completed and not completed, the 6 ms silence test, highway loss and substitutes. Rules: R1, R2, R3, R4. -/
def Obligations.HighwayMultiframes : Prop :=
  ∀ (s : State) (elapsed lead : Nat) (codes : Vector Code 48) (valid : Vector Bool 3), s.inReset = false →
    let handed (code : Slot → Option Code) (v : SpanIx → Bool) : Events :=
      { s.events with
        samples := s.events.samples ++ (List.finRange 48).map fun x => { slot := x, code := code x, valid := v (spanOf x) }
        validBits := s.events.validBits ++ (List.finRange 3).map fun sp => { span := sp, valid := v sp } }
    let substituted : Events := if s.partPhase = .config then s.events else handed (fun _ => none) (fun _ => false)
    let silence := s.highway.silence + elapsed
    (s.highway.present = true → silence < 98304 →
      exec (.completedMultiframe { elapsed := elapsed, lead := lead } codes valid) s = .next { s with
        highway := { s.highway with silence := 0, lead := lead }
        events := if s.partPhase = .config then s.events else handed (fun x => some codes[x]) (fun sp => valid[sp]) }
      ∧ exec (.multiframeNotCompleted elapsed) s = .next { s with highway := { s.highway with silence := silence } }
      ∧ exec (.substituteMultiframe elapsed) s = .next { s with highway := { s.highway with silence := silence } })
    ∧ (s.highway.present = true → 98304 ≤ silence →
      exec (.completedMultiframe { elapsed := elapsed, lead := lead } codes valid) s = .next { s with
        highway := { present := false, goodRun := 1, silence := 0, lead := lead }, events := substituted }
      ∧ exec (.multiframeNotCompleted elapsed) s = .next { s with
          highway := { s.highway with present := false, goodRun := 0, silence := silence }, events := substituted }
      ∧ exec (.substituteMultiframe elapsed) s = .next { s with
          highway := { s.highway with present := false, goodRun := 0, silence := silence }, events := substituted })
    ∧ (s.highway.present = true → s.highway.silence ≤ 98304 →
      exec .highwayLost s = .next { s with
        highway := { s.highway with present := false, goodRun := 0, silence := 98304 }, events := substituted })
    ∧ (s.highway.present = false →
      exec (.completedMultiframe { elapsed := elapsed, lead := lead } codes valid) s =
        let right := 30720 + lead ≤ silence + s.highway.lead ∧ silence + s.highway.lead ≤ 34816 + lead
        let run := if right then min (s.highway.goodRun + 1) 8 else 1
        .next { s with highway := { present := run = 8, goodRun := run, silence := 0, lead := lead } })
    ∧ (s.highway.present = false →
      exec (.multiframeNotCompleted elapsed) s = .next { s with
        highway := { s.highway with present := false, goodRun := 0, silence := silence } }
      ∧ exec (.substituteMultiframe elapsed) s = .next { s with
          highway := { s.highway with silence := silence }, events := substituted }
      ∧ exec .highwayLost s = .next s)

/-- A sample is discarded or steps its recognizer; acceptance where change events are not handled. Rules: R13, R15, R16,
R17, R18, R20, Table 2-1. -/
def Obligations.SampleStepsRecognizer : Prop :=
  (∀ (s : State) (slot : Slot), s.inReset = false →
    (∀ e, s.NextSample slot e → (e.code = none ∨ e.valid = false) → exec (.sample slot) s = .next (s.sampleTaken slot))
    ∧ (∀ x, s.NextSample slot { slot := slot, code := some x, valid := true } →
        let c := s.circuit slot
        let becomes (r : Recognizer) : State := (s.sampleTaken slot).writeCircuit slot { c with recog := r }
        (x = c.recog.accepted →
          exec (.sample slot) s = .next (becomes { c.recog with count := c.recog.count - 2 }))
        ∧ (x ≠ c.recog.accepted → x = c.recog.candidate →
            c.recog.count + 1 < threshold (s.profile slot) c.phase x →
            exec (.sample slot) s = .next (becomes { c.recog with count := c.recog.count + 1 }))
        ∧ (x ≠ c.recog.accepted → x ≠ c.recog.candidate →
            exec (.sample slot) s = .next (becomes { c.recog with candidate := x, count := 1 })))
    ∧ (∀ x, s.Accepts slot x →
        ((s.circuit slot).phase = .unequipped ∨ (s.circuit slot).phase = .restarting ∨ (s.circuit slot).phase = .lockout) →
        exec (.sample slot) s = .next (s.accepted slot x)))
  ∧ (∀ (s : State) (slot : Slot) (phase : Phase) (x : Code),
      let p := s.settings.profiles[(s.settings.spans[spanOf slot]).profile]
      s.profile slot = p
      ∧ (x = 0 → threshold p phase x = p.idlePersist)
      ∧ (x = 15 → threshold p phase x = p.alarmPersist)
      ∧ (x ≠ 0 → x ≠ 15 → (phase = .outRegister ∨ phase = .inRegister) → threshold p phase x = p.registerPersist)
      ∧ (x ≠ 0 → x ≠ 15 → phase ≠ .outRegister → phase ≠ .inRegister → threshold p phase x = p.linePersist))

/-- An accepted code with no entry posts UNEXPECTED-CODE and changes nothing else. Rules: R19, R34, R36, R41, R52, R64,
R73, R76, R80, R82, Table 3-4. -/
def Obligations.UnexpectedCodeIsReported : Prop :=
  ∀ (s : State) (slot : Slot) (x : Code), s.inReset = false → s.Accepts slot x → (s.circuit slot).expects x = false →
    exec (.sample slot) s = .next ((s.accepted slot x).post (some slot)
      { s.says .unexpectedCode slot (s.circuit slot) x.val with detail2 := (s.circuit slot).recog.accepted.val })

/-- PROCEED in OUT-SEIZING: the owner is told, the bound request is consumed, the first forward item is sent. Rules: R32,
R59, R98, R108, R140. -/
def Obligations.SeizureAcknowledged : Prop :=
  ∀ (s : State) (slot : Slot), s.inReset = false → s.Accepts slot 1 → (s.circuit slot).phase = .outSeizing →
    let c := s.heard slot 1
    let after := s.itemSent slot { c with phase := .outRegister, call := { c.call with bound := none } }
    (∀ ix r, c.call.owner = some (.ofHost ix r) →
      exec (.sample slot) s = .next (((s.accepted slot 1).endSlot ix r
        { s.report .huntGranted with circuit := some (s.circuitNumber slot), station := some s.station }).writeCircuit
          slot after))
    ∧ (∀ origin tag b, c.call.owner = some (.foreign origin tag) → c.call.bound = some b →
      exec (.sample slot) s = .next ((((s.accepted slot 1).sendFrame
        { dest := origin, body := .grant tag (s.circuitNumber slot) }).post (some slot)
        { s.says .foreignSeizure slot after b.cls.val with
          station := some origin, tag := tag.toNat, category := some c.call.category,
          digits := some c.call.send.digits }).writeCircuit slot after))

/-- Dual seizure won and lost, block during seizure, and ACK expiry. Rules: R33, R84, R85, R88, R95, R98, R109, R157. -/
def Obligations.FailedSeizuresReturnRequest : Prop :=
  (∀ (s : State) (slot : Slot), s.inReset = false → (s.circuit slot).phase = .outSeizing →
    let request (o : Source) (b : Bound) : Option Request :=
      some { source := o, cls := b.cls, category := b.category, digits := (s.circuit slot).call.send.digits,
             complete := (s.circuit slot).call.send.complete, visited := b.visited, repeatUsed := b.repeatUsed }
    (s.Accepts slot 12 → s.controlled slot = true → exec (.sample slot) s = .next (s.accepted slot 12))
    ∧ (s.Accepts slot 12 → s.controlled slot = false →
        let c := s.heard slot 12
        let after : Circuit :=
          { c with
            phase := .inRegister
            sendCode := 1
            call := { c.call with
              owner := some .incoming, step := some .awaitSignal, bound := none, send := SendQueue.reset, category := 0,
              buffer := s.emptyBuffer slot }
            timer := s.started slot .compel (s.profile slot).compel }
        (∀ ix r b, c.call.owner = some (.ofHost ix r) → c.call.bound = some b →
          exec (.sample slot) s = .next ((((s.accepted slot 12).post (some slot)
            { s.says .glare slot after 1 with detail2 := ix.val, reference := some r }).writeCircuit slot after).handReturn
              slot .glare (request (.ofHost ix r) b)))
        ∧ (∀ o t b, c.call.owner = some (.foreign o t) → c.call.bound = some b →
          exec (.sample slot) s = .next ((((s.accepted slot 12).post (some slot)
            { s.says .glare slot after 2 with station := some o, tag := t.toNat }).writeCircuit slot after).handReturn
              slot .glare (request (.foreign o t) b))))
    ∧ (∀ owner b, (s.circuit slot).call.bound = some b →
        ((∃ ix r, owner = Source.ofHost ix r ∧ (s.circuit slot).call.owner = some (.ofHost ix r))
          ∨ ∃ o t, owner = Source.foreign o t ∧ (s.circuit slot).call.owner = some (.foreign o t)) →
        (s.Accepts slot 14 →
          let after := { s.freed slot (s.heard slot 14) with remoteBlocked := true }
          exec (.sample slot) s = .next (((((s.accepted slot 14).post (some slot)
            (s.says .remoteBlock slot after 0)).writeCircuit slot after).handReturn slot .blocked
              (request owner b)).settle slot (s.circuit slot)))
        ∧ (s.Expired slot .ack →
          let after := (s.circuit slot).lockedOut
          exec (.ackExpiry slot) s = .next ((((s.post (some slot)
            (s.says .lockout slot after 1)).writeCircuit slot after).handReturn slot .noAck
              (request owner b)).settle slot (s.circuit slot)))))
  ∧ (∀ (s : State) (ix : HuntIx) (r : Reference),
      let h := s.huntSlot ix
      let live : Prop := h.reference = some r ∧ (h.state = .waiting ∨ h.state = .seizing ∨ h.state = .offered)
      let slots (h' : HuntSlot) : Hunt := { s.hunt with slots := s.hunt.slots.set ix.val h' ix.isLt }
      (h.holds r = true ↔ live)
      ∧ (∀ rep : Report, rep.kind.ofHunt = true → live → s.endSlot ix r rep = { s with
          hunt := slots { h with state := .ended, circuit := none }
          reports := { s.reports with queue := s.reports.queue ++ [{ rep with reference := some r }] } })
      ∧ (∀ rep : Report, ¬ live → s.endSlot ix r rep = s)
      ∧ (∀ (slot : Slot) (why : ReturnReason) (q : Request),
          let handed : Events :=
            { s.events with returned := s.events.returned ++ [{ slot := slot, reason := why, request := q }] }
          (q.source = .ofHost ix r → live → s.handReturn slot why (some q) = { s with
            hunt := slots { h with state := .waiting, circuit := none }, events := handed })
          ∧ (q.source = .ofHost ix r → ¬ live → s.handReturn slot why (some q) = { s with events := handed })
          ∧ (∀ o t, q.source = .foreign o t → s.handReturn slot why (some q) = { s with events := handed })))

/-- An IDLE circuit takes a seizure, a remote block or a remote unblock. Rules: R8, R28, R35, R92, R93, R153, R155. -/
def Obligations.IdleCodes : Prop :=
  ∀ (s : State) (slot : Slot), s.inReset = false → (s.circuit slot).phase = .idle →
    let free (c : Circuit) : Code := s.freeCode slot (c.hostBlock || c.quiesceBlock)
    let held : Prop := s.failed (spanOf slot) = true ∨ { slot := slot, kind := .restoration } ∈ s.events.actions
    (s.Accepts slot 12 → held → exec (.sample slot) s = .next (s.accepted slot 12))
    ∧ (s.Accepts slot 12 → ¬ held → (s.circuit slot).blocked = true →
        exec (.sample slot) s = .next ((s.accepted slot 12).post (some slot)
          (s.says .seizedWhileBlocked slot (s.circuit slot)
            (flag (s.circuit slot).hostBlock + 2 * flag (s.circuit slot).quiesceBlock))))
    ∧ (s.Accepts slot 12 → ¬ held → (s.circuit slot).blocked = false →
        let after := s.seized slot (s.heard slot 12)
        exec (.sample slot) s = .next ((((s.accepted slot 12).post (some slot)
          (s.says .incomingSeizure slot after 0)).writeCircuit slot after).settle slot (s.circuit slot)))
    ∧ (s.Accepts slot 14 → (s.circuit slot).remoteBlocked = false →
        let after := { s.heard slot 14 with remoteBlocked := true, sendCode := free (s.circuit slot) }
        exec (.sample slot) s = .next ((((s.accepted slot 14).post (some slot)
          (s.says .remoteBlock slot after 0)).writeCircuit slot after).settle slot (s.circuit slot)))
    ∧ (s.Accepts slot 14 → (s.circuit slot).remoteBlocked = true → exec (.sample slot) s = .next (s.accepted slot 14))
    ∧ (s.Accepts slot 0 → (s.circuit slot).remoteBlocked = true →
        let after := { s.heard slot 0 with remoteBlocked := false, sendCode := free (s.circuit slot) }
        exec (.sample slot) s = .next ((((s.accepted slot 0).post (some slot)
          (s.says .remoteUnblock slot after 0)).writeCircuit slot after).settle slot (s.circuit slot)))
    ∧ (s.Accepts slot 0 → (s.circuit slot).remoteBlocked = false → exec (.sample slot) s = .next (s.accepted slot 0))

/-- Answer, clear-back and re-answer at the outgoing end. Rules: R40, R42, R43, R44, R46. -/
def Obligations.AnswerAndClearBackRecognized : Prop :=
  ∀ (s : State) (slot : Slot), s.inReset = false →
    (s.Accepts slot 11 → (s.circuit slot).phase = .outAwaitAnswer →
      let c := s.heard slot 11
      let after : Circuit :=
        { c with phase := .outAnswered, sendCode := 12, call := { c.call with answerStamp := some s.tick }, timer := none }
      exec (.sample slot) s = .next (((s.accepted slot 11).post (some slot)
        (s.says .answer slot after 0)).writeCircuit slot after))
    ∧ (s.Accepts slot 12 → ((s.circuit slot).phase = .outAwaitAnswer ∨ (s.circuit slot).phase = .outAnswered) →
      let c := s.heard slot 12
      let value := (s.profile slot).clearback
      let after : Circuit :=
        { c with
          phase := .outClearedBack, sendCode := 12, timer := if value = 0 then none else s.started slot .clearback value }
      exec (.sample slot) s = .next (((s.accepted slot 12).post (some slot)
        (s.says .clearBack slot after (flag (c.phase = .outAwaitAnswer)))).writeCircuit slot after))
    ∧ (s.Accepts slot 11 → (s.circuit slot).phase = .outClearedBack →
      let c := s.heard slot 11
      (∀ t, c.call.answerStamp = some t →
        let after : Circuit := { c with phase := .outAnswered, sendCode := 12, timer := none }
        exec (.sample slot) s = .next (((s.accepted slot 11).post (some slot)
          (s.says .reAnswer slot after 0)).writeCircuit slot after))
      ∧ (c.call.answerStamp = none →
        let after : Circuit :=
          { c with
            phase := .outAnswered, sendCode := 12, call := { c.call with answerStamp := some s.tick }, timer := none }
        exec (.sample slot) s = .next (((s.accepted slot 11).post (some slot)
          (s.says .answer slot after 0)).writeCircuit slot after)))
    ∧ (∀ r, s.Accepts slot 11 → (s.circuit slot).phase = .outRegister → (s.circuit slot).call.step = some .signalOff →
      (s.circuit slot).call.send.request = some r → (r = 6 ∨ r = 7) →
      let c := s.heard slot 11
      let closed : Circuit :=
        { c with
          phase := .outAwaitAnswer
          call := { c.call with step := none, send := { c.call.send with request := none } } }
      let after : Circuit :=
        { closed with
          phase := .outAnswered, sendCode := 12, call := { closed.call with answerStamp := some s.tick }, timer := none }
      exec (.sample slot) s = .next ((((s.accepted slot 11).post (some slot)
        (s.says .addressComplete slot closed (flag (r = 6)))).post (some slot)
          (s.says .answer slot after 0)).writeCircuit slot after))

/-- The outgoing register cycle: responses, refusals and the PROCEED that closes a cycle. Rules: R47, R59, R60, R61, R62,
R63, R71. -/
def Obligations.OutgoingRegisterCycle : Prop :=
  ∀ (s : State) (slot : Slot), s.inReset = false → (s.circuit slot).phase = .outRegister →
    (∀ x : Code, s.Accepts slot x → (s.circuit slot).call.step = some .signalOn → 2 ≤ x.val → x.val ≤ 7 →
      let c := s.heard slot x
      exec (.sample slot) s = .next ((s.accepted slot x).writeCircuit slot
        { c with
          sendCode := 12
          call := { c.call with step := some .signalOff, send := { c.call.send with request := some x } }
          timer := s.started slot .compel (s.profile slot).compel }))
    ∧ (∀ x : Code, s.Accepts slot x → (x = 8 ∨ x = 9 ∨ x = 10) →
      let after := s.releasing slot (s.heard slot x)
      exec (.sample slot) s = .next (((s.accepted slot x).post (some slot)
        (s.says .callFailed slot after x.val)).writeCircuit slot after))
    ∧ (∀ r, s.Accepts slot 1 → (s.circuit slot).call.step = some .signalOff →
        (s.circuit slot).call.send.request = some r →
        let c := s.heard slot 1
        let q := { c.call.send with request := none }
        let compel := s.started slot .compel (s.profile slot).compel
        let put (d : Circuit) : Host.Outcome State Fault Refusal := .next ((s.accepted slot 1).writeCircuit slot d)
        (r = 2 → exec (.sample slot) s = put (s.itemSent slot { c with call := { c.call with send := q } }))
        ∧ (r = 3 → exec (.sample slot) s = put
            { c with
              sendCode := itemCode c.call, call := { c.call with step := some .signalOn, send := q }, timer := compel })
        ∧ (r = 4 → exec (.sample slot) s = put
            (s.itemSent slot { c with call := { c.call with send := { q with pointer := 0 } } }))
        ∧ (r = 5 → exec (.sample slot) s = put
            { c with
              sendCode := categoryCode c.call.category
              call := { c.call with step := some .signalOn, send := { q with last := .category } }
              timer := compel })
        ∧ ((r = 6 ∨ r = 7) →
            let after : Circuit :=
              { c with
                phase := .outAwaitAnswer, sendCode := 12, call := { c.call with step := none, send := q }
                timer := s.started slot .answer (s.profile slot).answer }
            exec (.sample slot) s = .next (((s.accepted slot 1).post (some slot)
              (s.says .addressComplete slot after (flag (r = 6)))).writeCircuit slot after)))

/-- OUT-RELEASING ends in IDLE with RELEASED, or in LOCKOUT. Rules: R27, R48, R49, R53, R157. -/
def Obligations.OutgoingReleaseCompletes : Prop :=
  ∀ (s : State) (slot : Slot), s.inReset = false → (s.circuit slot).phase = .outReleasing →
    (s.Accepts slot 0 →
      let after := s.freed slot (s.heard slot 0)
      exec (.sample slot) s = .next ((((s.accepted slot 0).post (some slot)
        (s.says .released slot after 0)).writeCircuit slot after).settle slot (s.circuit slot)))
    ∧ (s.Accepts slot 14 →
      let after := { s.freed slot (s.heard slot 14) with remoteBlocked := true }
      exec (.sample slot) s = .next (((((s.accepted slot 14).post (some slot) (s.says .released slot after 0)).post
        (some slot) (s.says .remoteBlock slot after 0)).writeCircuit slot after).settle slot (s.circuit slot)))
    ∧ (s.Accepts slot 13 → exec (.sample slot) s = .next (s.accepted slot 13))
    ∧ (s.Expired slot .release → (s.circuit slot).recog.accepted = 0 →
      let after := s.freed slot (s.circuit slot)
      exec (.releaseExpiryReleasing slot) s = .next (((s.post (some slot)
        (s.says .released slot after 0)).writeCircuit slot after).settle slot (s.circuit slot)))
    ∧ (s.Expired slot .release → (s.circuit slot).recog.accepted ≠ 0 →
      let after := (s.circuit slot).lockedOut
      exec (.releaseExpiryReleasing slot) s = .next (((s.post (some slot)
        (s.says .lockout slot after 2)).writeCircuit slot after).settle slot (s.circuit slot)))

/-- The far end's clear-forward takes an incoming call into the release guard. Rules: R50, R94. -/
def Obligations.ClearForwardReceived : Prop :=
  ∀ (s : State) (slot : Slot), s.inReset = false →
    (s.Accepts slot 0 → (s.circuit slot).phase.isIn = true → (s.circuit slot).phase ≠ .inGuard →
      let c := s.heard slot 0
      let after : Circuit :=
        { c with
          phase := .inGuard, sendCode := 13, call := { c.call with step := none }
          timer := s.started slot .guardTime (s.profile slot).guardTime, remoteBlocked := false }
      let told := (s.accepted slot 0).post (some slot) (s.says .clearForward slot after c.phase.code)
      exec (.sample slot) s = .next (((if c.remoteBlocked then told.post (some slot) (s.says .remoteUnblock slot after 0)
        else told).writeCircuit slot after).settle slot (s.circuit slot)))
    ∧ (∀ x, s.Accepts slot x → (s.circuit slot).phase = .inGuard → (x = 0 ∨ x = 12 ∨ x = 14) →
        exec (.sample slot) s = .next (s.accepted slot x))

/-- AWAIT-SIGNAL reads digits, END-OF-ADDRESS and the category. Rules: R73, R74, R75, R76. -/
def Obligations.IncomingItemsReceived : Prop :=
  ∀ (s : State) (slot : Slot) (x : Code), s.inReset = false → s.Accepts slot x → (s.circuit slot).phase = .inRegister →
    (s.circuit slot).call.step = some .awaitSignal →
    let c := s.heard slot x
    let b := c.call.buffer
    let isCategory := 1 ≤ x.val ∧ x.val ≤ 4 ∧ b.lastResponse = some 5
    let holds (b' : ReceiveBuffer) : Host.Outcome State Fault Refusal :=
      let after := s.waiting slot c b'
      .next (((s.accepted slot x).post (some slot) (s.digitsOf slot after)).writeCircuit slot after)
    (isCategory → ∀ k : Category, categoryCode k = x → exec (.sample slot) s = holds { b with category := some k })
    ∧ (x = 11 → exec (.sample slot) s = holds { b with endReceived := true })
    ∧ (x = 12 → exec (.sample slot) s = .next (s.accepted slot x))
    ∧ (∀ d : Digit, digitCode d = x → ¬ isCategory →
        (24 ≤ b.digits.length →
          let after := s.answering slot c 9
          exec (.sample slot) s = .next (((s.accepted slot x).post (some slot)
            (s.says .receiveOverflow slot after 0)).writeCircuit slot after))
        ∧ (b.digits.length < 24 →
          let b' := { b with digits := b.digits ++ [d] }
          (b'.digits.length ≤ b.limit →
            exec (.sample slot) s = .next ((s.accepted slot x).writeCircuit slot
              (s.answering slot { c with call := { c.call with buffer := b' } } 2)))
          ∧ (b.limit < b'.digits.length → exec (.sample slot) s = holds b')))

/-- RESPONDING: the return to 12 closes the incoming cycle, 0 is a clear-forward, and every other code is unexpected.
Rules: R80. -/
def Obligations.IncomingCycleCloses : Prop :=
  ∀ (s : State) (slot : Slot) (r x : Code), s.inReset = false → s.Accepts slot x → (s.circuit slot).phase = .inRegister →
    (s.circuit slot).call.step = some .responding → (s.circuit slot).call.buffer.lastResponse = some r →
    let c := s.heard slot x
    let unexpected : Host.Outcome State Fault Refusal := .next ((s.accepted slot x).post (some slot)
      { s.says .unexpectedCode slot (s.circuit slot) x.val with detail2 := (s.circuit slot).recog.accepted.val })
    (x = 12 → 2 ≤ r.val → r.val ≤ 5 →
      exec (.sample slot) s = .next ((s.accepted slot x).writeCircuit slot
        { c with
          sendCode := 1, call := { c.call with step := some .awaitSignal }
          timer := s.started slot .compel (s.profile slot).compel }))
    ∧ (x = 12 → (r = 6 ∨ r = 7) → c.call.answerPending = false →
      exec (.sample slot) s = .next ((s.accepted slot x).writeCircuit slot
        { c with phase := .inAwaitAnswer, sendCode := 1, call := { c.call with step := none }, timer := none }))
    ∧ (x = 12 → (r = 6 ∨ r = 7) → c.call.answerPending = true →
      exec (.sample slot) s = .next ((s.accepted slot x).writeCircuit slot
        { c with
          phase := .inAnswered, sendCode := 11, call := { c.call with step := none, answerPending := false }
          timer := none }))
    ∧ (x = 12 → (r = 8 ∨ r = 9 ∨ r = 10) → exec (.sample slot) s = unexpected)
    ∧ (x = 0 →
      let after : Circuit :=
        { c with
          phase := .inGuard, sendCode := 13, call := { c.call with step := none }
          timer := s.started slot .guardTime (s.profile slot).guardTime, remoteBlocked := false }
      let told := (s.accepted slot x).post (some slot) (s.says .clearForward slot after c.phase.code)
      exec (.sample slot) s = .next (((if c.remoteBlocked then told.post (some slot) (s.says .remoteUnblock slot after 0)
        else told).writeCircuit slot after).settle slot (s.circuit slot)))
    ∧ (x ≠ 0 → x ≠ 12 → exec (.sample slot) s = unexpected)

/-- A tick boundary advances the tick counter and every running timer by one. Rules: R9, R10, R12, R29. -/
def Obligations.TickBoundaryCounts : Prop :=
  ∀ s : State, s.inReset = false → ∃ t, exec .tickBoundary s = .next t
    ∧ t.tick = s.tick + 1
    ∧ (∀ slot, t.circuit slot = { s.circuit slot with
        timer := (s.circuit slot).timer.map fun u =>
          if u.paused then u else { u with remaining := u.remaining - 1 } })
    ∧ (∀ sp, t.span sp = { s.span sp with holdTimer := (s.span sp).holdTimer.map fun n => n - 1 })
    ∧ t.offers = { s.offers with table := s.offers.table.map fun e => { e with timer := e.timer - 1 } }
    ∧ t.bus = { s.bus with announce := s.bus.announce.map fun n => n - 1 }
    ∧ t = { s with tick := t.tick, circuits := t.circuits, spans := t.spans, offers := t.offers, bus := t.bus }

/-- The expiries of ANSWER, CLEARBACK, COMPEL and DIGIT at the outgoing end post their report and clear forward. Rules:
R45, R47, R65, R69, R71. -/
def Obligations.FailedCallsClearForward : Prop :=
  ∀ (s : State) (slot : Slot), s.inReset = false →
    let c := s.circuit slot
    let after := s.releasing slot c
    let clears (k : ReportKind) (detail : Nat) : Host.Outcome State Fault Refusal :=
      .next ((s.post (some slot) (s.says k slot after detail)).writeCircuit slot after)
    (s.Expired slot .answer → c.phase = .outAwaitAnswer → exec (.noAnswer slot) s = clears .noAnswer 0)
    ∧ (s.Expired slot .clearback → c.phase = .outClearedBack → exec (.forcedRelease slot) s = clears .forcedRelease 0)
    ∧ (s.Expired slot .compel → c.phase = .outRegister → c.call.step = some .signalOn →
        exec (.compelExpiryOutgoing slot) s = clears .registerTimeout 1)
    ∧ (s.Expired slot .compel → c.phase = .outRegister → c.call.step = some .signalOff →
        exec (.compelExpiryOutgoing slot) s = clears .registerTimeout 2)
    ∧ (s.Expired slot .digit → c.phase = .outRegister → c.call.step = some .digitWait →
        exec (.digitTimeout slot) s = clears .digitTimeout c.call.send.digits.length)

/-- The expiries of COMPEL, RESPONSE and RELEASE at the incoming end. Rules: R7, R54, R79, R81, R82. -/
def Obligations.IncomingExpiries : Prop :=
  ∀ (s : State) (slot : Slot), s.inReset = false →
    let c := s.circuit slot
    let ends (k : ReportKind) (after : Circuit) (detail : Nat) : Host.Outcome State Fault Refusal :=
      .next ((s.post (some slot) (s.says k slot after detail)).writeCircuit slot after)
    let code : Code := match c.call.buffer.lastResponse with
      | some r => if r = 8 ∨ r = 9 ∨ r = 10 then r else 9
      | none => 9
    let after : Circuit :=
      { c with
        phase := .inFailed, sendCode := code, call := { c.call with step := none }
        timer := s.started slot .release (s.profile slot).release }
    (s.Expired slot .compel → c.phase = .inRegister → c.call.step = some .awaitSignal →
      exec (.compelExpiryIncoming slot) s = ends .registerTimeout after 4)
    ∧ (s.Expired slot .compel → c.phase = .inRegister → c.call.step = some .responding →
      exec (.compelExpiryIncoming slot) s = ends .registerTimeout after 6)
    ∧ (s.Expired slot .response → c.phase = .inRegister → c.call.step = some .hostWait →
      exec (.responseTimeout slot) s = ends .responseTimeout (s.answering slot c 9) 0)
    ∧ (s.Expired slot .release → c.phase = .inFailed →
      exec (.noClearForward slot) s = ends .noClearForward (s.resettingAt slot c) c.recog.accepted.val)

/-- RESETTING ends in IDLE with RESET-DONE, or in LOCKOUT with RESET-FAILED; the notifications and the completion test
that end an event at a circuit. Rules: R27, R28, R53, R55, R56, R94, R103, R104, R113, R157. -/
def Obligations.CircuitResetCompletes : Prop :=
  (∀ (s : State) (slot : Slot), s.inReset = false → (s.circuit slot).phase = .resetting →
    (∀ x : Code, (x = 0 ∨ x = 14) →
      (s.Accepts slot x →
        let after := { s.freed slot (s.heard slot x) with remoteBlocked := x = 14 }
        exec (.sample slot) s = .next ((((s.accepted slot x).post (some slot)
          (s.says .resetDone slot after (flag (x = 14)))).writeCircuit slot after).settle slot (s.circuit slot)))
      ∧ (s.Expired slot .release → (s.circuit slot).recog.accepted = x →
        let after := { s.freed slot (s.circuit slot) with remoteBlocked := x = 14 }
        exec (.releaseExpiryResetting slot) s = .next (((s.post (some slot)
          (s.says .resetDone slot after (flag (x = 14)))).writeCircuit slot after).settle slot (s.circuit slot))))
    ∧ (s.Expired slot .release → (s.circuit slot).recog.accepted ≠ 0 → (s.circuit slot).recog.accepted ≠ 14 →
        let after := (s.circuit slot).lockedOut
        exec (.releaseExpiryResetting slot) s = .next (((s.post (some slot)
          (s.says .resetFailed slot after (s.circuit slot).recog.accepted.val)).writeCircuit slot after).settle slot
            (s.circuit slot))))
  ∧ (∀ (s : State) (slot : Slot) (before : Circuit),
      let after := s.circuit slot
      let sp := spanOf slot
      let told : Prop := ¬ (before.phase = .idle ↔ after.phase = .idle) ∨ before.hostBlock ≠ after.hostBlock
        ∨ before.quiesceBlock ≠ after.quiesceBlock ∨ before.remoteBlocked ≠ after.remoteBlocked
      let f := s.eligibleCount
      let l := levelFor s.settings.station f
      let counted : State := { s with
        hunt := { s.hunt with free := f, level := l }
        bus := { s.bus with
          levelSlot := if l ≠ s.hunt.level ∧ (s.bus.state = .active ∨ s.bus.state = .fault) then
            some { level := l, free := f, phase := s.partPhase } else s.bus.levelSlot } }
      let rests : Prop := (after.phase = .idle ∧ before.phase ≠ .idle) ∨ (after.phase = .lockout ∧ before.phase ≠ .lockout)
      let finishes : Prop := rests ∧ s.equipped slot = true ∧ (s.span sp).quiesce = .quiescing
        ∧ ∀ x, spanOf x = sp → s.equipped x = true →
            ((s.circuit x).phase = .idle ∧ (s.circuit x).quiesceBlock = true) ∨ (s.circuit x).phase = .lockout
      (¬ told → ¬ finishes → s.settle slot before = s)
      ∧ (told → ¬ finishes → s.settle slot before = counted)
      ∧ (finishes → s.settle slot before = (counted.putSpan sp { s.span sp with quiesce := .quiesced }).post none
          { s.report .spanQuiesced with span := some sp, detail1 := (s.span sp).condition.code, detail2 := 2 }))

/-- GUARD and RESTART expiries: the circuit enters IDLE and acts on the code it holds. Rules: R51, R92, R93, R153, R155,
R157, R168, R174, R178, R179. -/
def Obligations.GuardsEnd : Prop :=
  ∀ (s : State) (slot : Slot), s.inReset = false →
    let c := s.circuit slot
    let idle := s.freed slot c
    let taken := s.seized slot { idle with call := CallFields.reset }
    let blocked := { idle with remoteBlocked := true }
    let ended : State :=
      if c.recog.accepted = 12 then
        if s.failed (spanOf slot) = true ∨ { slot := slot, kind := .restoration } ∈ s.events.actions then
          s.writeCircuit slot idle
        else if idle.blocked then
          (s.post (some slot) (s.says .seizedWhileBlocked slot idle
            (flag idle.hostBlock + 2 * flag idle.quiesceBlock))).writeCircuit slot idle
        else (s.post (some slot) (s.says .incomingSeizure slot taken 0)).writeCircuit slot taken
      else if c.recog.accepted = 14 ∧ c.remoteBlocked = false then
        (s.post (some slot) (s.says .remoteBlock slot blocked 0)).writeCircuit slot blocked
      else s.writeCircuit slot idle
    (s.Expired slot .guardTime → c.phase = .inGuard → exec (.guardExpiry slot) s = .next (ended.settle slot c))
    ∧ (s.Expired slot .restart → c.phase = .restarting →
        let t := ended.settle slot c
        (s.restarting - 1 ≠ 0 → exec (.restartExpiry slot) s = .next { t with restarting := s.restarting - 1 })
        ∧ (s.restarting - 1 = 0 → exec (.restartExpiry slot) s = .next
            (({ t with restarting := 0, partPhase := .run } : State).post none
              { s.report .restartDone with detail1 := s.equippedCount })))

/-- Valid bits step a span's run counter; the 50th invalid one fails it, the 500th valid one restores it. Rules: R103,
R113, R148, R149, R150, R155. -/
def Obligations.ValidBitsStepSpan : Prop :=
  ∀ (s : State) (sp : SpanIx) (v : Bool), s.inReset = false →
    s.events.validBits.find? (fun e => e.span = sp) = some { span := sp, valid := v } →
    let g := s.span sp
    let t := s.setEvents { s.events with validBits := s.events.validBits.eraseP (fun e => e.span = sp) }
    let circuits := (List.finRange 16).map (slotOf sp)
    (g.condition = .inService → v = true → exec (.spanValidBit sp) s = .next (t.putSpan sp { g with run := 0 }))
    ∧ (g.condition = .inService → v = false → g.run + 1 < 50 →
        exec (.spanValidBit sp) s = .next (t.putSpan sp { g with run := g.run + 1 }))
    ∧ (g.condition = .inService → v = false → 50 ≤ g.run + 1 →
        let hold := if (s.spanProfile sp).policy = .hold then some (s.spanProfile sp).holdTime else g.holdTimer
        let u := ((t.putSpan sp { g with condition := .failed, run := 0, holdTimer := hold }).post none
          { s.report .spanFailed with span := some sp, detail1 := 1, detail2 := g.quiesce.code }).recount
        exec (.spanValidBit sp) s = .next { u with
          events := { u.events with actions := s.events.actions ++ circuits.map fun x => { slot := x, kind := .failure } } })
    ∧ (g.condition = .failed → v = false → exec (.spanValidBit sp) s = .next (t.putSpan sp { g with run := 0 }))
    ∧ (g.condition = .failed → v = true → g.run + 1 < 500 →
        exec (.spanValidBit sp) s = .next (t.putSpan sp { g with run := g.run + 1 }))
    ∧ (g.condition = .failed → v = true → 500 ≤ g.run + 1 →
        let u := ((t.putSpan sp { g with condition := .inService, run := 0, holdTimer := none }).post none
          { s.report .spanRestored with span := some sp, detail1 := 0, detail2 := g.quiesce.code }).recount
        exec (.spanValidBit sp) s = .next { u with
          events := { u.events with actions := s.events.actions ++ circuits.map fun x => { slot := x, kind := .restoration } } })

/-- Failure and restoration actions at one circuit. Rules: R8, R10, R22, R35, R92, R150, R151, R153, R155, R159. -/
def Obligations.SpanActionsAtCircuits : Prop :=
  ∀ (s : State) (slot : Slot), s.inReset = false →
    let c := s.circuit slot
    let next := (s.events.actions.find? fun a => a.slot = slot).map SpanAction.kind
    let t := s.setEvents { s.events with actions := s.events.actions.eraseP fun a => a.slot = slot }
    let paused (b : Bool) : Option CircuitTimer := c.timer.map fun u => { u with paused := b }
    let table (d : Circuit) : Circuit := { d with sendCode := s.sendingCode slot d }
    let resumed : Circuit :=
      { c with
        recog := { accepted := c.recog.accepted, candidate := c.recog.accepted, count := 0 }
        call := { c.call with held := false }
        timer := paused false }
    (next = some .failure → c.phase.isCall = true → (s.profile slot).policy = .hold →
      exec (.spanFailureAction slot) s = .next (t.writeCircuit slot
        (table { c with call := { c.call with held := true }, timer := paused true })))
    ∧ (next = some .failure → c.phase = .resetting →
      exec (.spanFailureAction slot) s = .next (t.writeCircuit slot { c with sendCode := 0, timer := paused true }))
    ∧ (next = some .failure → c.phase = .idle →
      exec (.spanFailureAction slot) s = .next (t.writeCircuit slot
        { c with sendCode := s.freeCode slot (c.hostBlock || c.quiesceBlock) }))
    ∧ (next = some .failure → (c.phase = .lockout ∨ c.phase = .unequipped ∨ c.phase = .restarting) →
      exec (.spanFailureAction slot) s = .next t)
    ∧ (next = some .restoration → ¬ (c.phase = .idle ∧ c.recog.accepted = 12) →
      exec (.restorationAction slot) s = .next (t.writeCircuit slot (table resumed)))
    ∧ (next = some .restoration → c.phase = .idle → c.recog.accepted = 12 → s.failed (spanOf slot) = true →
      exec (.restorationAction slot) s = .next (t.writeCircuit slot (table resumed)))
    ∧ (next = some .restoration → c.phase = .idle → c.recog.accepted = 12 → s.failed (spanOf slot) = false →
      (c.blocked = true →
        exec (.restorationAction slot) s = .next ((t.writeCircuit slot (table resumed)).post (some slot)
          (s.says .seizedWhileBlocked slot c (flag c.hostBlock + 2 * flag c.quiesceBlock))))
      ∧ (c.blocked = false →
        let after := s.seized slot resumed
        exec (.restorationAction slot) s = .next (((t.post (some slot)
          (s.says .incomingSeizure slot after 0)).writeCircuit slot after).settle slot c)))

/-- A call is lost on a failed span: at the failure under DEFAULT, at the HOLD-TIME expiry when still held. Rules: R27,
R109, R150, R154, R159. -/
def Obligations.CallLostOnFailedSpan : Prop :=
  ∀ (s : State) (slot : Slot) (sp : SpanIx), s.inReset = false →
    let c := s.circuit slot
    let after : Circuit := { s.resettingAt slot c with
      timer := some { purpose := .release, remaining := (s.profile slot).release, paused := true } }
    let lost (t : State) : Host.Outcome State Fault Refusal :=
      let told := t.post (some slot) (s.says .callLost slot after c.phase.code)
      let ended : State := match c.call.owner with
        | some (.ofHost ix r) =>
          if c.phase = Phase.outSeizing then
            told.endSlot ix r
              { s.report .huntCancelled with detail1 := 4, circuit := some (s.circuitNumber slot) }
          else told
        | _ => told
      .next (ended.writeCircuit slot after)
    let next := (s.events.actions.find? fun a => a.slot = slot).map SpanAction.kind
    let t := s.setEvents { s.events with actions := s.events.actions.eraseP fun a => a.slot = slot }
    (next = some .failure → c.phase.isCall = true → (s.profile slot).policy = .default →
      exec (.spanFailureAction slot) s = lost t)
    ∧ (next = some .callLoss → c.phase.isCall = true → (c.call.held = true ∨ (s.profile slot).policy = .default) →
      exec (.callLossAction slot) s = lost t)
    ∧ (next = some .callLoss → (c.phase.isCall = false ∨ (c.call.held = false ∧ (s.profile slot).policy = .hold)) →
      exec (.callLossAction slot) s = .next t)
    ∧ ((s.span sp).holdTimer = some 0 →
      exec (.holdTimeExpiry sp) s = .next ((s.putSpan sp { s.span sp with holdTimer := none }).setEvents
        { s.events with actions := s.events.actions ++ (List.finRange 16).map fun ch => { slot := slotOf sp ch, kind := .callLoss } }))
    ∧ ((s.span sp).holdTimer ≠ some 0 → exec (.holdTimeExpiry sp) s = .next s)
    ∧ ((s.span sp).holdTimer = some 0 → (∀ a ∈ s.events.actions, a.slot ≠ slot) → spanOf slot = sp → ∀ t,
      exec (.holdTimeExpiry sp) s = .next t → ∀ more,
      exec (.restorationAction slot) { t with events := { t.events with actions := t.events.actions ++ more } }
        = .next { t with events := { t.events with actions := t.events.actions ++ more } })

/-- QUIESCE-SPAN and RESUME-SPAN: the circuits, the span, F, L, the LEVEL slot, the reports and the reply. Rules: R8, R35,
R91, R103, R104, R113, R149, R156, R157, R158, R159. -/
def Obligations.SpansQuiesceAndResume : Prop :=
  ∀ (s : State) (sp : SpanIx), s.inReset = false → s.partPhase = .run →
    let f := [BitVec.ofNat 8 sp.val]
    let done (q : Quiesce) : Port := { reply := some { status := .done, body := .quiesce q }, replyStands := true }
    let inSpan (x : Slot) : Bool := spanOf x = sp && s.equipped x
    let slots := (List.finRange 16).map (slotOf sp)
    let allDone : Bool := slots.all fun x =>
      !s.equipped x || (s.circuit x).phase = .idle || (s.circuit x).phase = .lockout
    let takes (x : Slot) : Bool :=
      inSpan x && (s.circuit x).quiesceBlock && (s.circuit x).phase = .idle && !(s.circuit x).hostBlock
        && (s.circuit x).recog.accepted = 12 && !s.failed sp
    let quiesced (x : Slot) : Circuit :=
      if inSpan x && (s.circuit x).phase = .idle then { s.circuit x with quiesceBlock := true, sendCode := 14 }
      else s.circuit x
    let resumed (x : Slot) : Circuit :=
      if takes x then s.seized x { s.circuit x with quiesceBlock := false }
      else if inSpan x && (s.circuit x).quiesceBlock then
        { s.circuit x with
          quiesceBlock := false
          sendCode := s.sendingCode x { s.circuit x with quiesceBlock := false } }
      else s.circuit x
    let freeAgain (x : Slot) : Bool :=
      (resumed x).phase = .idle && !(resumed x).hostBlock && !(resumed x).quiesceBlock && !(resumed x).remoteBlocked
        && (s.span sp).condition = .inService
    let changed (circuits : Slot → Circuit) (q : Quiesce) (n : Nat) (reports : Reports) : State := { s with
      circuits := Vector.ofFn circuits
      spans := s.spans.set sp.val { s.span sp with quiesce := q } sp.isLt
      hunt := { s.hunt with free := n, level := levelFor s.settings.station n }
      bus := { s.bus with
        levelSlot := if levelFor s.settings.station n ≠ s.hunt.level ∧ (s.bus.state = .active ∨ s.bus.state = .fault) then
          some { level := levelFor s.settings.station n, free := n, phase := .run } else s.bus.levelSlot }
      reports := reports
      port := done q }
    ((s.span sp).quiesce = .none → exec (.quiesceSpan f) s = .next
      (changed quiesced (if allDone then .quiesced else .quiescing)
        ((List.finRange 48).countP fun x => spanOf x ≠ sp && s.eligible x)
        (if allDone then (s.post none { s.report .spanQuiesced with
          span := some sp, detail1 := (s.span sp).condition.code, detail2 := 2 }).reports else s.reports)))
    ∧ ((s.span sp).quiesce ≠ .none →
        exec (.quiesceSpan f) s = .next { s with port := done (s.span sp).quiesce })
    ∧ ((s.span sp).quiesce = .none → exec (.resumeSpan f) s = .next { s with port := done .none })
    ∧ ((s.span sp).quiesce ≠ .none → exec (.resumeSpan f) s = .next
      (changed resumed .none
        ((List.finRange 48).countP fun x => if spanOf x = sp then freeAgain x else s.eligible x)
        ((slots.filter takes).foldl (fun u x => u.post (some x) (s.says .incomingSeizure x (resumed x) 0)) s).reports))

/-- DISPATCH admits the head request and chooses its circuit, or hands it to the offer unit. Rules: R102, R104, R105,
R131, R132, R133, R138. -/
def Obligations.DispatchDecides : Prop :=
  ∀ (s : State) (q : Request) (rest : List Request), s.inReset = false → s.hunt.dispatch = none → s.hunt.queue = q :: rest →
    let t := s.setHunt { s.hunt with queue := rest }
    let admitted : Bool := match q.cls with
      | 0 => 0 < s.hunt.free
      | 1 => s.settings.station.r1 < s.hunt.free
      | 2 => s.settings.station.r2 < s.hunt.free
      | 3 => s.settings.station.r3 < s.hunt.free
    (admitted = true → ∀ x, s.choose = some x →
      exec .dispatch s = .next { s with hunt := { s.hunt with
        queue := rest, dispatch := some { request := q, circuit := x, stage := .inFlight }
        rotation := some (s.circuitNumber x) } })
    ∧ ((∃ y, s.eligible y = true) → ∃ x, s.choose = some x)
    ∧ (∀ x, s.choose = some x → s.eligible x = true
        ∧ (s.controlled x = false → ∀ y, s.eligible y = true → s.controlled y = false)
        ∧ (s.settings.station.method = .ascending → ∀ y, s.eligible y = true → s.controlled y = s.controlled x →
            s.circuitNumber x ≤ s.circuitNumber y)
        ∧ (s.settings.station.method = .descending → ∀ y, s.eligible y = true → s.controlled y = s.controlled x →
            s.circuitNumber y ≤ s.circuitNumber x)
        ∧ (s.settings.station.method = .rotating → ∀ y, s.eligible y = true → s.controlled y = s.controlled x →
            match s.hunt.rotation with
            | none => s.circuitNumber x ≤ s.circuitNumber y
            | some p => (p < s.circuitNumber x → p < s.circuitNumber y → s.circuitNumber x ≤ s.circuitNumber y)
                ∧ (s.circuitNumber x ≤ p → s.circuitNumber y ≤ p ∧ s.circuitNumber x ≤ s.circuitNumber y)))
    ∧ (admitted = false → ∀ ix r, q.source = .ofHost ix r → (s.huntSlot ix).holds r = true →
        let offered := t.putHuntSlot ix { s.huntSlot ix with state := .offered, circuit := none }
        let congested (why : Nat) : Host.Outcome State Fault Refusal :=
          .next (offered.endSlot ix r { s.report .huntCongestion with detail1 := why })
        (8 ≤ s.offers.table.length → exec .dispatch s = congested 1)
        ∧ (s.offers.table.length < 8 → (s.ring ≤ 1 ∨ s.candidate s.station q.visited q.cls = none) →
            exec .dispatch s = congested 2)
        ∧ (s.offers.table.length < 8 → ∃ k : Nat, k < 256
            ∧ s.offers.newTag = s.offers.tagCounter + BitVec.ofNat 8 k
            ∧ (∀ e ∈ s.offers.table, e.tag ≠ s.offers.newTag)
            ∧ ∀ j, j < k → ∃ e ∈ s.offers.table, e.tag = s.offers.tagCounter + BitVec.ofNat 8 j)
        ∧ (s.offers.table.length < 8 → 1 < s.ring → ∀ st, s.candidate s.station q.visited q.cls = some st →
            let e : OfferEntry :=
              { tag := s.offers.newTag, slot := ix, reference := r, cls := q.cls, category := q.category,
                digits := q.digits, complete := q.complete, visited := q.visited, target := st,
                timer := s.settings.station.offerTime, pending := true }
            exec .dispatch s = .next
              (({ offered with offers := { table := s.offers.table ++ [e], tagCounter := e.tag + 1 } } : State).sendFrame
                { dest := st
                  body := .offer
                    { origin := s.station, tag := e.tag, cls := q.cls, category := q.category, digits := q.digits,
                      complete := q.complete, visited := q.visited } })))
    ∧ (admitted = false → ∀ origin tag, q.source = .foreign origin tag →
        let o : OfferBody :=
          { origin := origin, tag := tag, cls := q.cls, category := q.category, digits := q.digits,
            complete := q.complete, visited := addStation q.visited s.station }
        exec .dispatch s = .next (t.sendFrame (match s.candidate origin o.visited q.cls with
          | some st => { dest := st, body := .offer o }
          | none => { dest := origin, body := .exhausted tag })))

/-- The seize command: taken by an eligible circuit, refused otherwise; eligible, controlled and the level by the fields.
Rules: R28, R31, R83, R103, R104, R106, R109, R111, R147. -/
def Obligations.SeizeCommandAtCircuit : Prop :=
  (∀ (s : State) (q : Request) (x : Slot), s.inReset = false →
    s.hunt.dispatch = some { request := q, circuit := x, stage := .inFlight } →
    let marked (stage : SeizeStage) : State :=
      s.setHunt { s.hunt with dispatch := some { request := q, circuit := x, stage := stage } }
    let c := s.circuit x
    let after : Circuit :=
      { c with
        phase := .outSeizing
        sendCode := 12
        call := { c.call with
          owner := some (match q.source with | .ofHost ix r => .ofHost ix r | .foreign o t => .foreign o t)
          bound := some { cls := q.cls, category := q.category, repeatUsed := q.repeatUsed, visited := q.visited }
          send := { digits := q.digits, complete := q.complete, pointer := 0, last := .none, request := none }
          category := q.category }
        timer := s.started x .ack (s.profile x).ack }
    let mark (ix : HuntIx) (r : Reference) : Prop := q.source = .ofHost ix r ∧ (s.huntSlot ix).holds r = true
      ∧ (s.huntSlot ix).cancelMark = true
    (s.eligible x = true → (∀ ix r, ¬ mark ix r) →
      exec .seizeCommand s = .next (((marked .taken).writeCircuit x after).settle x c))
    ∧ (s.eligible x = true → ∀ ix r, mark ix r →
      let u := ((s.setHunt { s.hunt with dispatch := none }).writeCircuit x after).settle x c
      exec .seizeCommand s = .next ((u.endSlot ix r
        { s.report .huntCancelled with detail1 := 1, circuit := some (s.circuitNumber x) }).writeCircuit x
          (s.releasing x after)))
    ∧ (s.eligible x = false → exec .seizeCommand s = .next (marked .refused)))
  ∧ (∀ (s : State) (x : Slot),
      let c := s.circuits[x]
      let g := s.spans[spanOf x]
      let number := (s.settings.spans[spanOf x]).base + x.val % 16
      (s.eligible x = true ↔ c.phase = .idle ∧ c.hostBlock = false ∧ c.quiesceBlock = false ∧ c.remoteBlocked = false
        ∧ g.condition = .inService ∧ g.quiesce = .none)
      ∧ s.eligibleCount = ((List.finRange 48).filter s.eligible).length
      ∧ s.circuitNumber x = number
      ∧ (s.controlled x = true ↔ (s.settings.station.parity = .even ∧ number % 2 = 0)
          ∨ (s.settings.station.parity = .odd ∧ number % 2 = 1)))
  ∧ (∀ (st : StationSettings) (n : Nat),
      let admitted (k : CallClass) : Prop := (match k with | 0 => 0 | 1 => st.r1 | 2 => st.r2 | 3 => st.r3) < n
      (∀ k : CallClass, levelFor st n = some k ↔ admitted k ∧ ∀ j, k < j → ¬ admitted j)
      ∧ (levelFor st n = none ↔ n = 0))

/-- The outcome of a seize command. Rules: R98, R106, R109, R111. -/
def Obligations.SeizeOutcomeTaken : Prop :=
  ∀ (s : State) (q : Request) (x : Slot) (stage : SeizeStage), s.inReset = false →
    s.hunt.dispatch = some { request := q, circuit := x, stage := stage } →
    let t := s.setHunt { s.hunt with dispatch := none }
    (∀ ix r, q.source = .ofHost ix r → (s.huntSlot ix).holds r = true →
      let cancelled (n : Option Nat) : Report := { s.report .huntCancelled with detail1 := 1, circuit := n }
      (stage = .taken → (s.circuit x).phase = .outSeizing → (s.circuit x).call.owner = some (.ofHost ix r) →
        ((s.huntSlot ix).cancelMark = false →
          exec .seizeCommandOutcome s = .next
            (t.putHuntSlot ix { s.huntSlot ix with state := .seizing, circuit := some x }))
        ∧ ((s.huntSlot ix).cancelMark = true →
          exec .seizeCommandOutcome s = .next ((t.endSlot ix r (cancelled (some (s.circuitNumber x)))).writeCircuit x
            (s.releasing x (s.circuit x)))))
      ∧ (stage = .refused → (s.huntSlot ix).cancelMark = true →
          exec .seizeCommandOutcome s = .next ((t.putHuntSlot ix { s.huntSlot ix with cancelMark := false }).endSlot ix r
            (cancelled none)))
      ∧ (stage = .refused → (s.huntSlot ix).cancelMark = false →
          exec .seizeCommandOutcome s = exec .dispatch (s.setHunt { s.hunt with
            dispatch := none, queue := q :: s.hunt.queue })))
    ∧ (∀ o tag, q.source = .foreign o tag →
      (stage = .taken → exec .seizeCommandOutcome s = .next t)
      ∧ (stage = .refused →
          exec .seizeCommandOutcome s = exec .dispatch (s.setHunt { s.hunt with
            dispatch := none, queue := q :: s.hunt.queue })))

/-- A returned request gets one repeat at the head of the queue, then fails or is declined; with the cancel mark, by the
model's choice, it is cancelled. Rules: R98, R101, R107, R138. -/
def Obligations.ReturnedRequestRepeats : Prop :=
  ∀ (s : State) (slot : Slot) (e : ReturnEvent), s.inReset = false →
    s.events.returned.find? (fun e => e.slot = slot) = some e →
    let q := e.request
    let t := s.setEvents { s.events with returned := s.events.returned.eraseP (fun e => e.slot = slot) }
    let repeated := t.setHunt { s.hunt with queue := { q with repeatUsed := true } :: s.hunt.queue }
    (∀ ix r, q.source = .ofHost ix r → (s.huntSlot ix).holds r = true → (s.huntSlot ix).cancelMark = false →
      (q.repeatUsed = false → s.hunt.queue.length < 8 →
        exec (.requestReturn slot) s = .next
          (repeated.putHuntSlot ix { s.huntSlot ix with state := .waiting, circuit := none }))
      ∧ ((q.repeatUsed = true ∨ 8 ≤ s.hunt.queue.length) →
        exec (.requestReturn slot) s = .next (t.endSlot ix r
          { s.report .huntFailed with
            detail1 := (match e.reason with | .glare => 1 | .noAck => 2 | .blocked => 3)
            circuit := some (s.circuitNumber e.slot) })))
    ∧ (∀ ix r, q.source = .ofHost ix r → (s.huntSlot ix).holds r = true → (s.huntSlot ix).cancelMark = true →
      exec (.requestReturn slot) s = .next (t.endSlot ix r
        { s.report .huntCancelled with detail1 := 1, circuit := some (s.circuitNumber e.slot) }))
    ∧ (∀ origin tag, q.source = .foreign origin tag →
      (q.repeatUsed = false → s.hunt.queue.length < 8 → exec (.requestReturn slot) s = .next repeated)
      ∧ ((q.repeatUsed = true ∨ 8 ≤ s.hunt.queue.length) →
        let o : OfferBody :=
          { origin := origin, tag := tag, cls := q.cls, category := q.category, digits := q.digits,
            complete := q.complete, visited := addStation q.visited s.station }
        exec (.requestReturn slot) s = .next (t.sendFrame (match s.candidate origin o.visited q.cls with
          | some st => { dest := st, body := .offer o }
          | none => { dest := origin, body := .exhausted tag }))))

/-- HUNT: the three tests in order, then the lowest FREE slot and the tail of the queue. Rules: R98, R99, R100, R101,
R181. -/
def Obligations.HuntOrderTaken : Prop :=
  ∀ (s : State) (r : Reference) (cls : CallClass) (k : Category) (complete : Bool) (ds : List Digit),
    s.inReset = false → s.partPhase = .run → ds.length ≤ 24 →
    let f := wordOf r.toNat ++ byteOf cls.val ++ byteOf (categoryNumber k) ++ byteOf (flag complete) ++ digitList ds
    let held : Prop := ∃ ix, (s.huntSlot ix).state ≠ .free ∧ (s.huntSlot ix).reference = some r
    let refused (st : Status) : Host.Outcome State Fault Refusal :=
      .next { s with port := { reply := some { status := st, body := .reference r }, replyStands := true } }
    (held → exec (.hunt f) s = refused .inUse)
    ∧ (¬ held → (∀ ix, (s.huntSlot ix).state ≠ .free) → exec (.hunt f) s = refused .noSlot)
    ∧ (¬ held → ∀ ix, (s.huntSlot ix).state = .free → (∀ j, j < ix → (s.huntSlot j).state ≠ .free) →
        (8 ≤ s.hunt.queue.length → exec (.hunt f) s = refused .queueFull)
        ∧ (s.hunt.queue.length < 8 → exec (.hunt f) s = .next { s with
            hunt := { s.hunt with
              slots := s.hunt.slots.set ix.val
                { state := .waiting, reference := some r, circuit := none, cancelMark := false } ix.isLt
              queue := s.hunt.queue ++
                [{ source := .ofHost ix r, cls := cls, category := k, digits := ds, complete := complete,
                   visited := BitVec.twoPow 8 s.station.val, repeatUsed := false }] }
            port := { reply := some { status := .done, body := .huntSlot ix }, replyStands := true } }))

/-- CANCEL acts by the state of the slot that holds the reference. Rules: R98, R109, R110, R111, R112, R136. -/
def Obligations.CancelOrderTaken : Prop :=
  ∀ (s : State) (r : Reference), s.inReset = false → s.partPhase = .run →
    let f := wordOf r.toNat
    let notFound : Host.Outcome State Fault Refusal :=
      .next { s with port := { reply := some { status := .notFound, body := .reference r }, replyStands := true } }
    let cancelled (n : Option Nat) : Report := { s.report .huntCancelled with detail1 := 1, circuit := n }
    let done (t : State) (st : SlotState) : Host.Outcome State Fault Refusal :=
      .next { t with port := { reply := some { status := .done, body := .slotState st }, replyStands := true } }
    ((∀ ix, (s.huntSlot ix).reference = some r → (s.huntSlot ix).state = .free) → exec (.cancel f) s = notFound)
    ∧ (∀ ix, (s.huntSlot ix).reference = some r →
        (∀ j, (s.huntSlot j).state ≠ .free → (s.huntSlot j).reference = some r → j = ix) →
        ((s.huntSlot ix).state = .ended → exec (.cancel f) s = notFound)
        ∧ ((s.huntSlot ix).state = .waiting → (∃ q ∈ s.hunt.queue, q.source = .ofHost ix r) →
            exec (.cancel f) s = done ((s.setHunt { s.hunt with
              queue := s.hunt.queue.filter fun q => q.source ≠ .ofHost ix r }).endSlot ix r (cancelled none)) .ended)
        ∧ ((s.huntSlot ix).state = .waiting → (∀ q ∈ s.hunt.queue, q.source ≠ .ofHost ix r) →
            (∀ e ∈ s.events.returned, e.request.source ≠ .ofHost ix r) →
            let taken (d : Dispatch) : Prop := s.hunt.dispatch = some d ∧ d.stage = .taken
              ∧ d.request.source = .ofHost ix r ∧ (s.circuit d.circuit).phase = .outSeizing
              ∧ (s.circuit d.circuit).call.owner = some (.ofHost ix r)
            ((∀ d, ¬ taken d) →
              exec (.cancel f) s = done (s.putHuntSlot ix { s.huntSlot ix with cancelMark := true }) .waiting)
            ∧ (∀ d, taken d → exec (.cancel f) s = done
              (((s.setHunt { s.hunt with dispatch := none }).endSlot ix r
                (cancelled (some (s.circuitNumber d.circuit)))).writeCircuit d.circuit
                  (s.releasing d.circuit (s.circuit d.circuit))) .ended))
        ∧ (∀ x, (s.huntSlot ix).state = .seizing → (s.huntSlot ix).circuit = some x →
            (s.circuit x).phase = .outSeizing → (s.circuit x).call.owner = some (.ofHost ix r) →
            exec (.cancel f) s = done ((s.endSlot ix r (cancelled (some (s.circuitNumber x)))).writeCircuit x
              (s.releasing x (s.circuit x))) .ended)
        ∧ (∀ e, (s.huntSlot ix).state = .offered →
            s.offers.table.find? (fun e => e.slot = ix && e.reference = r) = some e →
            exec (.cancel f) s = done ((s.endSlot ix r (cancelled none)).withoutEntry e) .ended))

/-- At the origin: GRANT, EXHAUSTED and the OFFER-TIME expiry of a live entry and of none. Rules: R98, R109, R136, R137,
R141. -/
def Obligations.OfferAnswers : Prop :=
  ∀ (s : State) (src : Station) (tag : Tag) (n : Nat) (rest : List ArrivedFrame), s.inReset = false →
    let t := s.setEvents { s.events with arrived := rest }
    (s.events.arrived = { source := src, body := .grant tag n } :: rest →
      (∀ e, s.offers.live tag = some e → exec .grantReceived s = .next ((t.endSlot e.slot e.reference
        { s.report .huntGranted with circuit := some n, station := some src }).withoutEntry e))
      ∧ (s.offers.live tag = none →
        exec .grantReceived s = .next (t.sendFrame { dest := src, body := .withdraw tag n })))
    ∧ (s.events.arrived = { source := src, body := .exhausted tag } :: rest →
      (∀ e, s.offers.live tag = some e → exec .exhaustedReceived s = .next ((t.endSlot e.slot e.reference
        { s.report .huntCongestion with detail1 := 4 }).withoutEntry e))
      ∧ (s.offers.live tag = none → exec .exhaustedReceived s = .next t))
    ∧ (∀ e, s.offers.live tag = some e →
      (e.timer = 0 → exec (.offerTimeExpiry tag) s = .next ((s.endSlot e.slot e.reference
        { s.report .huntTimeout with detail1 := e.target.val }).withoutEntry e))
      ∧ (e.timer ≠ 0 → exec (.offerTimeExpiry tag) s = .next s))
    ∧ (s.offers.live tag = none → exec (.offerTimeExpiry tag) s = .next s)

/-- An OFFER received: discarded, taken as EXHAUSTED, answered, declined or queued; joining the send queue; the candidate.
Rules: R100, R101, R123, R133, R138. -/
def Obligations.OfferReceived : Prop :=
  ∀ (s : State) (src : Station) (o : OfferBody) (rest : List ArrivedFrame), s.inReset = false →
    let t := s.setEvents { s.events with arrived := rest }
    let visited := addStation o.visited s.station
    (s.events.arrived = { source := src, body := .offer o } :: rest →
      (s.ring ≤ o.origin.val → exec .offerReceived s = .next t)
      ∧ (o.origin.val < s.ring → o.origin = s.station →
        (∀ e, s.offers.live o.tag = some e → exec .offerReceived s = .next ((t.endSlot e.slot e.reference
          { s.report .huntCongestion with detail1 := 4 }).withoutEntry e))
        ∧ (s.offers.live o.tag = none → exec .offerReceived s = .next t))
      ∧ (o.origin.val < s.ring → o.origin ≠ s.station →
        (o.visited.getLsbD s.station.val = true →
          exec .offerReceived s = .next (t.sendFrame { dest := o.origin, body := .exhausted o.tag }))
        ∧ (o.visited.getLsbD s.station.val = false → 8 ≤ s.hunt.queue.length →
          exec .offerReceived s = .next (t.sendFrame (match s.candidate o.origin visited o.cls with
            | some st => { dest := st, body := .offer { o with visited := visited } }
            | none => { dest := o.origin, body := .exhausted o.tag })))
        ∧ (o.visited.getLsbD s.station.val = false → s.hunt.queue.length < 8 →
          exec .offerReceived s = .next { t with hunt := { s.hunt with
            queue := s.hunt.queue ++
              [{ source := .foreign o.origin o.tag, cls := o.cls, category := o.category, digits := o.digits,
                 complete := o.complete, visited := o.visited, repeatUsed := false }] } })))
    ∧ (∀ f : Directed,
      (s.bus.queue.length < 16 → (s.bus.state = .active ∨ s.bus.state = .fault) →
        s.sendFrame f = { s with bus := { s.bus with
          queue := s.bus.queue ++ [{ frame := f, attempts := 0, sending := false, dropped := false }] } })
      ∧ ((16 ≤ s.bus.queue.length ∨ s.bus.state = .mute) →
        ((∃ b, f.body = .offer b) ∨ ∃ g n, f.body = .grant g n) →
        s.sendFrame f = { s with events := { s.events with
          outcomes := s.events.outcomes ++ [{ delivered := false, frame := f }] } })
      ∧ ((16 ≤ s.bus.queue.length ∨ s.bus.state = .mute) →
        ((∃ g, f.body = .exhausted g) ∨ ∃ g n, f.body = .withdraw g n) → s.sendFrame f = s))
    ∧ (s.ring ≤ 8 → ∀ (origin : Station) (set : StationSet) (cls : CallClass) (st : Station),
      let fits (x : Station) : Prop := set.getLsbD x.val = false ∧ x ≠ origin
        ∧ ∃ v l, s.bus.view[x] = some v ∧ v.present = true ∧ v.level = some l ∧ cls ≤ l
      (s.candidate origin set cls = some st ↔
        ∃ k, 1 ≤ k ∧ k < s.ring ∧ st.val = (s.station.val + k) % s.ring ∧ fits st
          ∧ ∀ j, 1 ≤ j → j < k → ∀ x : Station, x.val = (s.station.val + j) % s.ring → ¬ fits x))

/-- WITHDRAW received and a GRANT not delivered take back the foreign call of that origin, tag and circuit. Rules: R47,
R140, R142. -/
def Obligations.CallsWithdrawn : Prop :=
  ∀ (s : State) (st : Station) (tag : Tag) (n : Nat), s.inReset = false →
    let named (x : Slot) : Prop := s.locate n = some x ∧ (s.circuit x).call.owner = some (.foreign st tag)
      ∧ (s.circuit x).phase.isOut = true ∧ (s.circuit x).phase ≠ .outReleasing
    let gone (t : State) (x : Slot) (cause : Nat) : Host.Outcome State Fault Refusal :=
      let after := s.releasing x (s.circuit x)
      .next ((t.writeCircuit x after).post (some x)
        { s.says .withdrawn x after cause with station := some st, tag := tag.toNat })
    (∀ rest, s.events.arrived = { source := st, body := .withdraw tag n } :: rest →
      let t := s.setEvents { s.events with arrived := rest }
      (∀ x, named x → exec .withdrawReceived s = gone t x 2)
      ∧ ((∀ x, ¬ named x) → exec .withdrawReceived s = .next t))
    ∧ (∀ rest delivered,
      s.events.outcomes = { delivered := delivered, frame := { dest := st, body := .grant tag n } } :: rest →
      let t := s.setEvents { s.events with outcomes := rest }
      (delivered = true → exec .grantOutcome s = .next t)
      ∧ (delivered = false → ∀ x, named x → exec .grantOutcome s = gone t x 1)
      ∧ (delivered = false → (∀ x, ¬ named x) → exec .grantOutcome s = .next t))

/-- The outcome of an OFFER at its origin and at a station that forwarded it. Rules: R134, R135, R136, R139. -/
def Obligations.OfferOutcomes : Prop :=
  ∀ (s : State) (delivered : Bool) (st : Station) (o : OfferBody) (rest : List FrameOutcome), s.inReset = false →
    s.events.outcomes = { delivered := delivered, frame := { dest := st, body := .offer o } } :: rest →
    let t := s.setEvents { s.events with outcomes := rest }
    (o.origin = s.station →
      ((∀ e, s.offers.live o.tag = some e → e.pending = false) → exec .originOfferOutcome s = .next t)
      ∧ (∀ e, s.offers.live o.tag = some e → e.pending = true →
        let put (e' : OfferEntry) : State :=
          t.setOffers { s.offers with table := s.offers.table.map fun x => if x.tag = o.tag then e' else x }
        let visited := addStation e.visited e.target
        (delivered = true → exec .originOfferOutcome s = .next (put { e with pending := false }))
        ∧ (delivered = false → ∀ next, s.candidate s.station visited e.cls = some next →
          exec .originOfferOutcome s = .next ((put { e with visited := visited, target := next }).sendFrame
            { dest := next
              body := .offer
                { origin := s.station, tag := e.tag, cls := e.cls, category := e.category, digits := e.digits,
                  complete := e.complete, visited := visited } }))
        ∧ (delivered = false → s.candidate s.station visited e.cls = none →
          exec .originOfferOutcome s = .next ((t.endSlot e.slot e.reference
            { s.report .huntCongestion with detail1 := 3 }).withoutEntry { e with pending := false }))))
    ∧ (o.origin ≠ s.station →
      let visited := addStation o.visited st
      (delivered = true → exec .forwardedOfferOutcome s = .next t)
      ∧ (delivered = false →
        exec .forwardedOfferOutcome s = .next (t.sendFrame (match s.candidate o.origin visited o.cls with
          | some next => { dest := next, body := .offer { o with visited := visited } }
          | none => { dest := o.origin, body := .exhausted o.tag }))))

/-- A station that may send sends its first frame of the highest urgency; arbitration lost, abort, and the end of the
check. Rules: R114, R115, R116, R117, R119, R120, R122, R123, R124. -/
def Obligations.FrameTransmit : Prop :=
  (∀ (s : State) (line readBack : List Bit), s.inReset = false →
    let t := s.hear line
    let put (b' : Bus) : Host.Outcome State Fault Refusal := .next { t with bus := b' }
    let loses (bits : List Bit) : Prop :=
      let b : Bus := { t.bus.fed bits with reception := bits }
      let data := dataBits 0 0 bits
      let cut : Prop := bits ≠ [] ∧ (5 < b.dominantRun ∨ b.recessiveRun = 11
        ∨ (18 ≤ data.length ∧ 20 < ofBits ((data.drop 13).take 5)))
      (cut → exec (.frameTransmit line readBack) s = exec (.busFrameReceived []) { t with bus := b })
      ∧ (¬ cut → exec (.frameTransmit line readBack) s = put b)
    let may : Prop := t.bus.state = .active ∧ t.bus.recessiveRun = 11 ∧ t.bus.onLine = none ∧ t.bus.reception = []
    (¬ may → exec (.frameTransmit line readBack) s = .next t)
    ∧ (may → t.bus.queue = [] → t.bus.levelSlot = none → exec (.frameTransmit line readBack) s = .next t)
    ∧ (may → ∀ (pre : List Queued) (q : Queued) (post : List Queued), t.bus.queue = pre ++ q :: post →
      (∀ x ∈ pre, x.frame.body.urgency ≠ q.frame.body.urgency) →
      (∀ x ∈ t.bus.queue, q.frame.body.urgency ≤ x.frame.body.urgency) →
      let raw := q.frame.raw s.station
      let r := raw.transmit readBack
      let read := t.bus.fed r.2
      (r.1 = .lost → loses r.2)
      ∧ (r.1 = .sent → exec (.frameTransmit line readBack) s = put
          { t.bus.fed r.2 with
            queue := pre ++ { q with sending := true } :: post, onLine := some .directed })
      ∧ (r.1 = .aborted → q.dropped = false → (∀ x ∈ t.bus.queue, x.sending = false) →
        (q.attempts + 1 < 3 → exec (.frameTransmit line readBack) s = put
          { read with queue := pre ++ { q with attempts := q.attempts + 1 } :: post })
        ∧ (3 ≤ q.attempts + 1 → exec (.frameTransmit line readBack) s = .next
          ((({ t with bus := { read with queue := pre ++ post } } : State).handOutcome
            { delivered := false, frame := q.frame }).markAbsent q.frame.dest))))
    ∧ (may → t.bus.queue = [] → ∀ f, t.bus.levelSlot = some f →
      let raw := f.raw s.station
      let r := raw.transmit readBack
      (r.1 = .lost → loses r.2)
      ∧ (r.1 = .aborted → exec (.frameTransmit line readBack) s = put { t.bus.fed r.2 with levelSlot := none })
      ∧ (r.1 = .sent → exec (.frameTransmit line readBack) s = put
          { t.bus.fed r.2 with levelSlot := none, onLine := some .level })))
  ∧ (∀ (f : RawFrame) (pre rest back : List Bit) (x : Bit),
    f.transmit [] = (.sent, f.line)
    ∧ (f.line = f.compared → f.transmit (f.compared ++ back) = (.sent, f.compared))
    ∧ (f.line = f.compared ++ [true] → f.transmit (f.compared ++ x :: back) = (.sent, f.compared ++ [x]))
    ∧ (f.line = f.compared ∨ f.line = f.compared ++ [true])
    ∧ (pre ++ true :: rest = f.line → pre.length < f.arbitration →
      f.transmit (pre ++ false :: back) = (.lost, pre ++ [false]))
    ∧ (pre ++ x :: rest = f.compared → f.arbitration ≤ pre.length →
      f.transmit (pre ++ (!x) :: back) = (.aborted, pre ++ [!x])))
  ∧ (∀ (arb run : Nat) (data back : List Bit),
    let goesOn (read : List Bit) (n : Nat) : SendEnd × List Bit :=
      let r := sendBits (arb - 1) n data back
      (r.1, read ++ r.2)
    (0 < arb → sendBits arb run (false :: data) (true :: back) = goesOn [true] 0)
    ∧ sendBits arb run (true :: data) (true :: back) = goesOn [true] 0
    ∧ (run < 4 → sendBits arb run (false :: data) (false :: back) = goesOn [false] (run + 1))
    ∧ (run = 4 → data ≠ [] → sendBits arb run (false :: data) (false :: true :: back) = goesOn [false, true] 0)
    ∧ (∀ last : Bit, run = 4 → sendBits arb run [false] (false :: last :: back) = (.sent, [false, last])))

/-- The acknowledge slot: delivered, failed attempt, third failure; LEVEL, dropped and orphaned frames have no outcome.
Rules: R117, R122, R129, R136, R180. -/
def Obligations.AcknowledgeSlot : Prop :=
  ∀ (s : State) (level : Bit), s.inReset = false →
    let b : Bus := { s.bus.fed [level] with onLine := none }
    let line : State :=
      if b.state = .active ∧ b.dominantRun = 24 then
        ({ s with bus := { b with state := .fault } } : State).post none { s.report .busStuck with detail1 := 2 }
      else if b.state = .fault ∧ b.recessiveRun = 11 then
        ({ s with bus := { b with state := .active } } : State).post none { s.report .busRecovered with detail1 := 1 }
      else { s with bus := b }
    (s.bus.onLine = none → exec (.acknowledgeSlot level) s = .next s)
    ∧ ((s.bus.onLine = some .level ∨ s.bus.onLine = some .orphan) →
      exec (.acknowledgeSlot level) s = .next line)
    ∧ (s.bus.onLine = some .directed → ∀ (pre : List Queued) (q : Queued) (post : List Queued),
      s.bus.queue = pre ++ q :: post → (∀ x ∈ pre, x.sending = false) → q.sending = true →
      let left (queue : List Queued) : State :=
        { line with bus := { line.bus with queue := queue } }
      (q.dropped = true → exec (.acknowledgeSlot level) s = .next (left (pre ++ post)))
      ∧ (q.dropped = false → level = false → exec (.acknowledgeSlot level) s = .next
          ((left (pre ++ post)).handOutcome { delivered := true, frame := q.frame }))
      ∧ (q.dropped = false → level = true → q.attempts + 1 < 3 → exec (.acknowledgeSlot level) s = .next
          (left (pre ++ { q with attempts := q.attempts + 1, sending := false } :: post)))
      ∧ (q.dropped = false → level = true → 3 ≤ q.attempts + 1 → exec (.acknowledgeSlot level) s = .next
          (((left (pre ++ post)).handOutcome { delivered := false, frame := q.frame }).markAbsent q.frame.dest)))
    ∧ (∀ (st : Station) (v : ViewRecord), s.bus.view[st] = some v →
      let t : State := { s with bus := { s.bus with
        view := s.bus.view.set st.val (some { v with present := false, age := 3 }) st.isLt } }
      s.markAbsent st =
        if v.present then t.post none { s.report .stationAbsent with station := some st, detail1 := 2 } else t)

/-- A frame received: check errors, the duplicate, LEVEL frames into the view, directed frames to the offer unit. Rules:
R115, R116, R118, R119, R121, R124, R125, R126, R128, Table 7-3, Table 12-6. -/
def Obligations.FrameReceived : Prop :=
  (∀ (s₀ : State) (line : List Bit), s₀.inReset = false →
    let s := s₀.hear line
    let heard : State := { s with bus := { s.bus with reception := [] } }
    let acked : State := { s with bus := { s.bus with reception := [], ackDriven := true } }
    let bits := s.bus.reception
    (bits = [] → exec (.busFrameReceived line) s₀ = .next s)
    ∧ (bits ≠ [] →
      (receive bits = .failed → exec (.busFrameReceived line) s₀ = .next
        { heard with bus := { heard.bus with checkErrors := min 255 (s.bus.checkErrors + 1) } })
      ∧ (∀ src, receive bits = .good src none → exec (.busFrameReceived line) s₀ = .next heard)
      ∧ (∀ src c, receive bits = .good src (some c) →
        (s.bus.state = .silent → exec (.busFrameReceived line) s₀ = .next heard)
        ∧ (src = s.station → s.bus.state = .mute → exec (.busFrameReceived line) s₀ = .next heard)
        ∧ (src = s.station → (s.bus.state = .active ∨ s.bus.state = .fault) →
          let failed := (s.bus.queue.filter fun q => !q.dropped && (match q.frame.body with
            | .offer _ | .grant _ _ => true
            | .exhausted _ | .withdraw _ _ => false)).map fun q =>
              ({ delivered := false, frame := q.frame } : FrameOutcome)
          exec (.busFrameReceived line) s₀ = .next (({ heard with
            bus := { heard.bus with state := .mute, queue := [], levelSlot := none, onLine := none }
            events := { s.events with outcomes := s.events.outcomes ++ failed } } : State).post none
              { s.report .duplicateStation with station := some s.station }))
        ∧ (s.bus.state ≠ .silent → src ≠ s.station →
          (s.ring ≤ src.val → exec (.busFrameReceived line) s₀ = .next heard)
          ∧ (src.val < s.ring → ∀ d, c = .directed d →
            (d.dest = s.station → s.bus.state = .active → exec (.busFrameReceived line) s₀ = .next { acked with
              events := { s.events with arrived := s.events.arrived ++ [{ source := src, body := d.body }] } })
            ∧ ((d.dest ≠ s.station ∨ s.bus.state ≠ .active) →
              exec (.busFrameReceived line) s₀ = .next heard))
          ∧ (src.val < s.ring → ∀ f v, c = .level f → s.bus.view[src] = some v →
            let u : State := if s.bus.state = .active then acked else heard
            let t : State := { u with bus := { u.bus with
              view := s.bus.view.set src.val
                (some { present := true, level := f.level, free := f.free, phase := f.phase, age := 0 }) src.isLt } }
            exec (.busFrameReceived line) s₀ = .next (if v.present then t else t.post none
              { s.report .stationPresent with
                station := some src, detail1 := levelCode f.level, detail2 := f.free, tag := f.phase.code }))))))
  ∧ (∀ (f : RawFrame) (rest : List Bit), f.payload.length ≤ 20 →
      (∀ k : BitVec 16, k ≠ check f.covered →
        receive (stuff 0 (false :: f.covered ++ bitsOf 16 k.toNat) ++ rest) = .failed)
      ∧ (∀ pre post, pre ++ List.replicate 5 false ++ true :: post = f.line → post ≠ [] →
        receive (pre ++ List.replicate 5 false ++ false :: rest) = .failed)
      ∧ (∀ n, n < f.compared.length → receive (f.line.take n) = .failed)
      ∧ (∀ n, n + 11 < f.bits.length → receive (stuff 0 (f.bits.take n) ++ List.replicate 11 true ++ rest) = .failed)
      ∧ (neverIdle 0 f.line = true → receive (f.line ++ rest) = .good f.source f.content))
  ∧ (∀ (f : RawFrame) (rest : List Bit), 20 < f.payload.length → f.payload.length ≤ 31 →
      receive (f.line ++ rest) = .failed)
  ∧ (∀ f : RawFrame,
      let n := f.payload.length
      let byte (i : Nat) : Nat := (f.payload.getD i 0).toNat
      let fits : Prop :=
        (f.kind = 1 ∧ f.urgency = 1 ∧ ∃ ds, readDigits (f.payload.drop 3) = some ds)
        ∨ (f.kind = 2 ∧ f.urgency = 0 ∧ n = 3 ∧ 256 * byte 1 + byte 2 ≤ 1023)
        ∨ (f.kind = 3 ∧ f.urgency = 0 ∧ n = 1)
        ∨ (f.kind = 4 ∧ f.urgency = 0 ∧ n = 3 ∧ 256 * byte 1 + byte 2 ≤ 1023)
        ∨ (f.kind = 5 ∧ f.urgency = 2 ∧ n = 3 ∧ byte 0 ≤ 4 ∧ byte 1 ≤ 48 ∧ (byte 2 = 1 ∨ byte 2 = 2))
      f.content.isSome = true ↔ fits)

/-- Every bit heard: the line counts, the frame in reception, the stuck line and its recovery. Rules: R114, R115, R117,
R121, R124, R170. -/
def Obligations.LineStuckAndRecovered : Prop :=
  (∀ (s : State) (line : List Bit), s.inReset = false →
    let t := s.hear line
    exec (.busStuck line) s = .next (if t.bus.state = .active ∧ t.bus.dominantRun = 24 then
      ({ t with bus := { t.bus with state := .fault } } : State).post none { t.report .busStuck with detail1 := 2 } else t)
    ∧ exec (.busRecovered line) s = .next (if t.bus.state = .fault ∧ t.bus.recessiveRun = 11 then
      ({ t with bus := { t.bus with state := .active } } : State).post none { t.report .busRecovered with detail1 := 1 }
      else t))
  ∧ (∀ (s : State) (line : List Bit) (bit : Bit), s.inReset = false →
    let u := s.hear line
    let received : List Bit :=
      if u.bus.reception ≠ [] then u.bus.reception ++ [bit]
      else if bit = false ∧ u.bus.recessiveRun = 11 then [false] else []
    let b : Bus := { u.bus.fed [bit] with reception := received }
    let v : State := { u with bus := b }
    let data := dataBits 0 0 received
    let overLong : Prop := 18 ≤ data.length ∧ 20 < ofBits ((data.drop 13).take 5)
    let cut : Prop := received ≠ [] ∧ (5 < b.dominantRun ∨ b.recessiveRun = 11 ∨ overLong)
    let done (w : State) : Prop :=
      s.hear (line ++ [bit]) =
        if w.bus.state = .active ∧ w.bus.dominantRun = 24 then
          ({ w with bus := { w.bus with state := .fault } } : State).post none { w.report .busStuck with detail1 := 2 }
        else if w.bus.state = .fault ∧ w.bus.recessiveRun = 11 then
          ({ w with bus := { w.bus with state := .active } } : State).post none
            { w.report .busRecovered with detail1 := 1 }
        else w
    s.hear [] = s
    ∧ (cut → ∀ w, exec (.busFrameReceived []) v = .next w → done w)
    ∧ (¬ cut → done v)
    ∧ ((s.hear (line ++ [bit])).bus.state = .active → (s.hear (line ++ [bit])).bus.dominantRun < 24)
    ∧ ((s.hear (line ++ [bit])).bus.state = .fault → (s.hear (line ++ [bit])).bus.recessiveRun < 11))
  ∧ (∀ (b : Bus) (line : List Bit),
    let c := b.fed line
    b.fed [] = b
    ∧ b.fed (line ++ [true]) = { c with recessiveRun := min 11 (c.recessiveRun + 1), dominantRun := 0, ackDriven := false }
    ∧ b.fed (line ++ [false]) = { c with recessiveRun := 0, dominantRun := min 24 (c.dominantRun + 1), ackDriven := false }
    ∧ c = { b with recessiveRun := c.recessiveRun, dominantRun := c.dominantRun, ackDriven := c.ackDriven })

/-- The announce timer's expiry writes the LEVEL slot, ages the view and starts again. Rules: R127, R129. -/
def Obligations.AnnounceExpiry : Prop :=
  ∀ s : State, s.inReset = false →
    (s.bus.announce ≠ some 0 → exec .announceExpiry s = .next s)
    ∧ (s.bus.announce = some 0 → ∃ t, exec .announceExpiry s = .next t
      ∧ (∀ st : Station, t.bus.view[st] = (s.bus.view[st]).map fun v =>
          if v.age < 3 then { v with age := v.age + 1, present := v.present && v.age + 1 < 3 } else v)
      ∧ t.bus.levelSlot = (if s.bus.state = .active ∨ s.bus.state = .fault then
          some { level := s.hunt.level, free := s.hunt.free, phase := s.partPhase } else s.bus.levelSlot)
      ∧ t.bus.announce = some s.settings.station.announcePeriod
      ∧ (let aged := (List.finRange 8).filter fun st => match s.bus.view[st] with
          | some v => v.present && v.age = 2
          | none => false
        t.reports = (aged.foldl (fun u st => u.post none
          { s.report .stationAbsent with station := some st, detail1 := 1 }) s).reports)
      ∧ t = { s with
          bus := { s.bus with
            view := t.bus.view, levelSlot := t.bus.levelSlot, announce := t.bus.announce }
          reports := t.reports })

/-- A frame put on the line is received as itself, whatever follows it. Rules: R114, R118, Table 7-2, Table 7-3, Table
12-6. -/
def Obligations.FrameRoundTrip : Prop :=
  ∀ (src : Station) (rest : List Bit),
    (∀ d : Directed, d.within = true → neverIdle 0 (d.raw src).line = true →
      receive ((d.raw src).line ++ rest) = .good src (some (.directed d)))
    ∧ (∀ f : LevelFrame, f.within = true → neverIdle 0 (f.raw src).line = true →
      receive ((f.raw src).line ++ rest) = .good src (some (.level f)))

/-- A digit list is read exactly from the bytes it is sent as. Rules: 12.1, R181. -/
def Obligations.DigitListRoundTrip : Prop :=
  (∀ ds : List Digit, ds.length ≤ 24 → readDigits (digitList ds) = some ds)
  ∧ (∀ (bytes : List Byte) (ds : List Digit), readDigits bytes = some ds → bytes = digitList ds ∧ ds.length ≤ 24)
  ∧ (∀ (ds : List Digit) (k : Nat),
      (digitList ds)[0]? = some (BitVec.ofNat 8 ds.length) ∧ (digitList ds).length = 1 + (ds.length + 1) / 2
      ∧ (2 * k + 1 < ds.length → (digitList ds)[1 + k]? =
          some (BitVec.ofNat 8 (16 * (ds.getD (2 * k) 0).val + (ds.getD (2 * k + 1) 0).val)))
      ∧ (2 * k + 1 = ds.length → (digitList ds)[1 + k]? = some (BitVec.ofNat 8 (16 * (ds.getD (2 * k) 0).val + 15))))

/-- The order port: a transaction's bytes as their order by Table 12-1, discarded orders, and the decoder's checks in
their order. Rules: R160, R161, R162, R163, R181, Table 10-2, Table 10-3, Table 12-1. -/
def Obligations.DecoderRefuses : Prop :=
  (∀ s : State, s.inReset = false →
    let answers (st : Status) (b : ReplyBody) : Host.Outcome State Fault Refusal :=
      .next { s with port := { reply := some { status := st, body := b }, replyStands := true } }
    (∀ bytes, (bytes.length ≤ 1 ∨ ∃ kind len fields, bytes = kind :: len :: fields ∧ fields.length < len.toNat) →
      exec (.orderDiscarded bytes) s = .next { s with port := { s.port with replyStands := false } })
    ∧ (∀ kind fields, (kind = 0 ∨ 24 ≤ kind.toNat) →
      exec (.unknownOrder kind fields) s = answers .unknownOrder (.partPhase s.partPhase))
    ∧ (∀ c, lengthFits c = some false → exec c s = answers .malformed (.partPhase s.partPhase))
    ∧ (∀ c, lengthFits c = some true →
      (takenIn s.partPhase c = false → exec c s = answers .wrongPartPhase (.partPhase s.partPhase))
      ∧ (takenIn s.partPhase c = true → fieldsFit c = false →
        exec c s = answers .malformed (.partPhase s.partPhase))
      ∧ (takenIn s.partPhase c = true → fieldsFit c = true → ∀ f, namesCircuit c = some f →
        (s.locate (wordAt f 0) = none → exec c s = answers .noSuchCircuit (.circuitNumber (wordAt f 0)))
        ∧ (∀ slot, s.locate (wordAt f 0) = some slot → byteAt f 2 ≠ 0 →
          byteAt f 2 ≠ (s.circuit slot).phase.code →
          exec c s = answers .stale (.phaseStep (s.circuit slot).phase (s.circuit slot).call.step)))))
  ∧ (let orders : List (List Byte → Instr) :=
        [.setProfile, .setStation, .setSpan, .go, .readConfig, .readStatus, .readView, .fetchReport, .clearErrors, .restart,
         .readCircuit, .hunt, .cancel, .quiesceSpan, .resumeSpan, .addDigits, .respond, .answer, .clearBack, .clearForward,
         .block, .unblock, .resetCircuit]
    ∀ (kind len : Byte) (fields more : List Byte),
      (fields.length = len.toNat →
        (∀ order, orders[kind.toNat - 1]? = some order → kind ≠ 0 →
          readTransaction (kind :: len :: (fields ++ more)) = order fields)
        ∧ ((kind = 0 ∨ 24 ≤ kind.toNat) →
          readTransaction (kind :: len :: (fields ++ more)) = .unknownOrder kind fields))
      ∧ (fields.length < len.toNat →
        readTransaction (kind :: len :: fields) = .orderDiscarded (kind :: len :: fields))
      ∧ readTransaction [kind] = .orderDiscarded [kind] ∧ readTransaction [] = .orderDiscarded []
      ∧ (readTransaction fields).wellFormed = true)
  ∧ (∀ (s : State) (n : Nat),
      let names (x : Slot) : Prop :=
        (s.settings.spans[spanOf x]).equipped.getLsbD (x.val % 16) = true
          ∧ n = (s.settings.spans[spanOf x]).base + x.val % 16
      (∀ x, s.locate n = some x → names x) ∧ (s.locate n = none → ∀ x, ¬ names x))
  ∧ (∀ (s : State) (head tail : List Byte) (b : Byte),
      (head.length = 4 → exec (.hunt (head ++ b :: tail)) s = exec (.hunt (head ++ (b &&& 1) :: tail)) s)
      ∧ (head.length = 3 → exec (.addDigits (head ++ b :: tail)) s = exec (.addDigits (head ++ (b &&& 1) :: tail)) s))

/-- SET-PROFILE, SET-STATION and SET-SPAN store their values, clamped into range, and answer with the record. Rules: R176. -/
def Obligations.ConfigurationOrders : Prop :=
  ∀ (s : State) (f : List Byte), s.inReset = false → s.partPhase = .config →
    let answered (t : State) (st : Status) (b : ReplyBody) : Host.Outcome State Fault Refusal :=
      .next { t with port := { reply := some { status := st, body := b }, replyStands := true } }
    let persist (n : Nat) : Nat := if n < 2 then 2 else if 250 < n then 250 else n
    let ticks (n : Nat) : Nat := if n = 0 then 1 else n
    (∀ (ix : Fin 4) (policy : LossPolicy), f.length = 25 → byteAt f 0 = ix.val → byteAt f 23 = policy.code →
      let given : Profile :=
        { idlePersist := byteAt f 1, alarmPersist := byteAt f 2, registerPersist := byteAt f 3, linePersist := byteAt f 4
          ack := wordAt f 5, compel := wordAt f 7, digit := wordAt f 9, response := wordAt f 11, answer := wordAt f 13
          clearback := wordAt f 15, release := wordAt f 17, guardTime := wordAt f 19, holdTime := wordAt f 21
          policy := policy, autoRequest := byteAt f 24 }
      let stored : Profile :=
        { idlePersist := persist (byteAt f 1), alarmPersist := persist (byteAt f 2)
          registerPersist := persist (byteAt f 3), linePersist := persist (byteAt f 4)
          ack := ticks (wordAt f 5), compel := ticks (wordAt f 7), digit := ticks (wordAt f 9)
          response := ticks (wordAt f 11), answer := ticks (wordAt f 13), clearback := wordAt f 15
          release := ticks (wordAt f 17), guardTime := ticks (wordAt f 19), holdTime := ticks (wordAt f 21)
          policy := policy, autoRequest := if 24 < byteAt f 24 then 24 else byteAt f 24 }
      exec (.setProfile f) s = answered
        { s with settings := { s.settings with profiles := s.settings.profiles.set ix.val stored ix.isLt } }
        (if stored = given then .done else .clamped) (.profile stored))
    ∧ (∀ (method : Method) (parity : Parity), f.length = 11 → byteAt f 1 = method.code → byteAt f 2 = parity.code →
      let first (n : Nat) : Nat := if 47 < n then 47 else n
      let raised (n low : Nat) : Nat := if n < low then low else n
      let r1 := first (byteAt f 3)
      let r2 := raised (first (byteAt f 4)) r1
      let r3 := raised (first (byteAt f 5)) r2
      let given : StationSettings :=
        { ring := byteAt f 0, method := method, parity := parity, r1 := byteAt f 3, r2 := byteAt f 4, r3 := byteAt f 5
          announcePeriod := byteAt f 6, offerTime := wordAt f 7, restartTime := wordAt f 9 }
      let stored : StationSettings :=
        { ring := if byteAt f 0 = 0 then 1 else if 8 < byteAt f 0 then 8 else byteAt f 0
          method := method, parity := parity, r1 := r1, r2 := r2, r3 := r3
          announcePeriod := if byteAt f 6 < 10 then 10 else byteAt f 6
          offerTime := ticks (wordAt f 7), restartTime := ticks (wordAt f 9) }
      exec (.setStation f) s = answered { s with settings := { s.settings with station := stored } }
        (if stored = given then .done else .clamped) (.station stored))
    ∧ (∀ (sp : SpanIx) (ix : Fin 4), f.length = 6 → byteAt f 0 = sp.val → byteAt f 5 = ix.val → wordAt f 1 ≤ 1023 →
      let stored : SpanSettings := { base := wordAt f 1, equipped := BitVec.ofNat 16 (wordAt f 3), profile := ix }
      exec (.setSpan f) s = answered
        { s with settings := { s.settings with spans := s.settings.spans.set sp.val stored sp.isLt } }
        .done (.span stored))
    ∧ ((∃ sp, (s.spanSettings sp).base % 16 ≠ 0) →
      exec (.go []) s = answered s .badConfig (.detail .stationOutsideRing)
        ∨ exec (.go []) s = answered s .badConfig (.detail .baseUnaligned))

/-- GO's four checks, and the entry to STARTING by GO and by RESTART. Rules: R116, R117, R127, R128, R177, R178, R180. -/
def Obligations.GoAndRestart : Prop :=
  ∀ s : State, s.inReset = false →
    let answers (t : State) (st : Status) (b : ReplyBody) : State :=
      { t with port := { reply := some { status := st, body := b }, replyStands := true } }
    let base (sp : SpanIx) : Nat := (s.spanSettings sp).base
    let inRing : Prop := s.station.val < s.ring
    let aligned : Prop := ∀ sp, base sp % 16 = 0
    let distinct : Prop := ∀ a b, base a = base b → a = b
    let someEquipped : Prop := ∃ sp, (s.spanSettings sp).equipped ≠ 0
    let entered (w t : State) : Prop :=
      let busState : BusState :=
        if w.bus.state = .mute then .mute else if w.bus.dominantRun = 24 then .fault else .active
      (∀ x, t.circuit x =
        { phase := if s.equipped x then .restarting else .unequipped, sendCode := 14
          recog := { accepted := 0, candidate := 0, count := 0 }
          hostBlock := false, quiesceBlock := false, remoteBlocked := false, call := CallFields.reset
          timer := if s.equipped x then
            some { purpose := .restart, remaining := s.settings.station.restartTime, paused := false } else none })
      ∧ (∀ sp, t.span sp = { condition := .inService, run := 0, quiesce := .none, holdTimer := none })
      ∧ (∀ st : Station, t.bus.view[st] = if st.val < s.ring ∧ st ≠ s.station then
          some { present := false, level := none, free := 0, phase := .starting, age := 3 } else none)
      ∧ t.reports = (if busState = .fault then
          ((w.setTick 0).post none { (w.setTick 0).report .busStuck with detail1 := 2 }).reports else w.reports)
      ∧ t = { s with
          partPhase := .starting, tick := 0, restarting := s.equippedCount, circuits := t.circuits, spans := t.spans
          hunt := Hunt.reset, offers := { s.offers with table := [] }, reports := t.reports
          bus := { w.bus with
            state := busState, view := t.bus.view, announce := some s.settings.station.announcePeriod
            levelSlot := if busState = .mute then w.bus.levelSlot
              else some { level := none, free := 0, phase := .starting } }
          events :=
            { samples := if s.highway.present then s.events.samples else s.events.samples ++
                (List.finRange 48).map fun x => { slot := x, code := none, valid := false }
              validBits := if s.highway.present then s.events.validBits else s.events.validBits ++
                (List.finRange 3).map fun sp => { span := sp, valid := false }
              actions := [], returned := []
              arrived := s.events.arrived, outcomes := [] }
          port := (answers s .done (.partPhase .starting)).port }
    (s.partPhase = .config →
      (¬ inRing → exec (.go []) s = .next (answers s .badConfig (.detail .stationOutsideRing)))
      ∧ (inRing → ¬ aligned → exec (.go []) s = .next (answers s .badConfig (.detail .baseUnaligned)))
      ∧ (inRing → aligned → ¬ distinct → exec (.go []) s = .next (answers s .badConfig (.detail .baseRepeated)))
      ∧ (inRing → aligned → distinct → ¬ someEquipped →
        exec (.go []) s = .next (answers s .badConfig (.detail .noneEquipped)))
      ∧ (inRing → aligned → distinct → someEquipped → ∃ t, exec (.go []) s = .next t ∧ entered s t))
    ∧ (s.partPhase ≠ .config → ∃ t, exec (.restart []) s = .next t ∧ entered
        { s with
          bus := { s.bus with queue := [], levelSlot := none, onLine := s.bus.onLine.map fun _ => .orphan }
          reports := { queue := [], resync := 0, viewChanged := false } } t)

/-- READ-STATUS, READ-VIEW, READ-CONFIG, READ-CIRCUIT and CLEAR-ERRORS; the bytes of every reply, the data-out line and
the send portion. Rules: R5, R161, R164, R165, R166, R167, R181, 12.2, Table 12-1, Table 12-2, Table 12-3, Table 12-5. -/
def Obligations.ReadOrders : Prop :=
  (∀ s : State, s.inReset = false →
    let answers (t : State) (b : ReplyBody) : Host.Outcome State Fault Refusal :=
      .next { t with port := { reply := some { status := .done, body := b }, replyStands := true } }
    let count (n : Nat) (p : Fin n → Bool) : Nat := ((List.finRange n).filter p).length
    let status : StatusReply :=
      { partPhase := s.partPhase, busState := s.bus.state, checkErrors := s.bus.checkErrors, free := s.hunt.free
        level := s.hunt.level, occupied := count 16 fun ix => (s.huntSlot ix).state ≠ .free
        queued := s.reports.queue.length, resync := count 48 fun x => s.reports.resync.getLsbD x.val
        viewChanged := s.reports.viewChanged
        spans := Vector.ofFn fun sp => ((s.span sp).condition, (s.span sp).quiesce) }
    let view := (List.finRange 8).flatMap fun st : Station => (s.bus.view[st]).toList.map fun v => (st, v)
    exec (.readStatus []) s = answers s (.status status)
    ∧ (statusBytes status).length = 15
    ∧ exec (.readView []) s = answers s (.view view)
    ∧ (ReplyBody.view view).bytes.length = 5 * view.length
    ∧ (∀ ix : Fin 4, exec (.readConfig [BitVec.ofNat 8 ix.val]) s = answers s (.profile s.settings.profiles[ix]))
    ∧ (∀ sp : SpanIx, exec (.readConfig [BitVec.ofNat 8 (4 + sp.val)]) s = answers s (.span (s.spanSettings sp)))
    ∧ exec (.readConfig [7]) s = answers s (.stationNumbered s.settings.station s.station)
    ∧ exec (.clearErrors []) s = answers { s with bus := { s.bus with checkErrors := 0 } } (.checkErrors s.bus.checkErrors)
    ∧ (∀ (f : List Byte) (slot : Slot), s.partPhase ≠ .config → f.length = 3 → s.Names f slot →
      exec (.readCircuit f) s = answers s (.circuit (s.circuit slot)))
    ∧ (∀ c : Circuit, (circuitBytes c).length =
        35 + (c.call.send.digits.length + 1) / 2 + (c.call.buffer.digits.length + 1) / 2))
  ∧ (∀ (s : State) (r : Reply), s.port.reply = some r → s.port.replyStands = true →
      s.dataOut 0 = BitVec.ofNat 8 r.status.code ∧ s.dataOut 1 = BitVec.ofNat 8 r.body.bytes.length
      ∧ (∀ k (h : k < r.body.bytes.length), s.dataOut (2 + k) = r.body.bytes[k])
      ∧ (∀ k, r.body.bytes.length ≤ k → s.dataOut (2 + k) = 255))
  ∧ (∀ (s : State) (i : Nat), (s.port.reply = none ∨ s.port.replyStands = false) → s.dataOut i = 255)
  ∧ (∀ (s : State) (x : Slot), s.sendPortion[x] = (s.circuit x).sendCode)
  ∧ (let byte (n : Nat) : List Byte := [BitVec.ofNat 8 n]
    let word (n : Nat) : List Byte := [BitVec.ofNat 8 (n / 256), BitVec.ofNat 8 n]
    let station (st : StationSettings) : List Byte :=
      byte st.ring ++ byte st.method.code ++ byte st.parity.code ++ byte st.r1 ++ byte st.r2 ++ byte st.r3
        ++ byte st.announcePeriod ++ word st.offerTime ++ word st.restartTime
    (∀ r : StatusReply, (ReplyBody.status r).bytes =
      byte r.partPhase.code ++ byte r.busState.code ++ byte r.checkErrors ++ byte r.free ++ byte (levelCode r.level)
        ++ byte r.occupied ++ byte r.queued ++ byte r.resync ++ byte (if r.viewChanged then 1 else 0)
        ++ byte r.spans[0].1.code ++ byte r.spans[0].2.code ++ byte r.spans[1].1.code ++ byte r.spans[1].2.code
        ++ byte r.spans[2].1.code ++ byte r.spans[2].2.code)
    ∧ (∀ records : List (Station × ViewRecord), (ReplyBody.view records).bytes = records.flatMap fun x =>
        byte x.1.val ++ [(if x.2.present then 1 else 0) ||| BitVec.ofNat 8 x.2.phase.code <<< 1]
          ++ byte (levelCode x.2.level) ++ byte x.2.free ++ byte x.2.age)
    ∧ (∀ p : Profile, (ReplyBody.profile p).bytes =
        byte p.idlePersist ++ byte p.alarmPersist ++ byte p.registerPersist ++ byte p.linePersist
          ++ word p.ack ++ word p.compel ++ word p.digit ++ word p.response ++ word p.answer ++ word p.clearback
          ++ word p.release ++ word p.guardTime ++ word p.holdTime ++ byte p.policy.code ++ byte p.autoRequest)
    ∧ (∀ g : SpanSettings, (ReplyBody.span g).bytes =
        word g.base ++ [g.equipped.extractLsb' 8 8, g.equipped.extractLsb' 0 8] ++ byte g.profile.val)
    ∧ (∀ st : StationSettings, (ReplyBody.station st).bytes = station st
        ∧ ∀ number : Station, (ReplyBody.stationNumbered st number).bytes = station st ++ byte number.val)
    ∧ (ReplyBody.none).bytes = []
    ∧ (∀ n : Nat, (ReplyBody.checkErrors n).bytes = byte n ∧ (ReplyBody.circuitNumber n).bytes = word n)
    ∧ (∀ p : PartPhase, (ReplyBody.partPhase p).bytes = byte p.code)
    ∧ (∀ (p : Phase) (step : Option RegStep) (n : Nat),
        (ReplyBody.phaseStep p step).bytes = byte p.code ++ byte (stepCode step)
        ∧ (ReplyBody.phaseStepCount p step n).bytes = byte p.code ++ byte (stepCode step) ++ byte n)
    ∧ (∀ r : Reference, (ReplyBody.reference r).bytes = [r.extractLsb' 8 8, r.extractLsb' 0 8])
    ∧ (∀ ix : HuntIx, (ReplyBody.huntSlot ix).bytes = byte ix.val)
    ∧ (∀ st : SlotState, (ReplyBody.slotState st).bytes = byte st.code)
    ∧ (∀ q : Quiesce, (ReplyBody.quiesce q).bytes = byte q.code)
    ∧ (∀ d : BadConfig, (ReplyBody.detail d).bytes = byte d.code)
    ∧ (∀ r : Report, (ReplyBody.report r).bytes = reportBytes r)
    ∧ (∀ c : Circuit, (ReplyBody.circuit c).bytes = circuitBytes c
      ∧ ∃ blocks presence owner bound last request received response flags timer stamp : List Byte,
        [blocks, presence, owner, bound, last, request, received, response, flags, timer, stamp].map List.length =
          [1, 1, 4, 4, 1, 1, 1, 1, 1, 3, 4]
        ∧ (∀ x, c.call.send.request = some x → request = byte x.val)
        ∧ (∀ k, c.call.buffer.category = some k → received = byte (k.val + 1))
        ∧ (∀ x, c.call.buffer.lastResponse = some x → response = byte x.val)
        ∧ (∀ t : Stamp, c.call.answerStamp = some t →
          stamp = [t.extractLsb' 24 8, t.extractLsb' 16 8, t.extractLsb' 8 8, t.extractLsb' 0 8])
        ∧ circuitBytes c =
          byte c.phase.code ++ byte (stepCode c.call.step) ++ byte c.sendCode.val
            ++ byte c.recog.accepted.val ++ byte c.recog.candidate.val ++ byte c.recog.count ++ blocks ++ presence
            ++ owner ++ bound
            ++ digitList c.call.send.digits ++ byte (if c.call.send.complete then 1 else 0) ++ byte c.call.send.pointer
            ++ last ++ request ++ byte (c.call.category.val + 1)
            ++ digitList c.call.buffer.digits ++ byte (if c.call.buffer.endReceived then 1 else 0)
            ++ received ++ byte c.call.buffer.limit ++ response ++ flags ++ timer ++ stamp))
  ∧ ([PartPhase.config, .starting, .run].map PartPhase.code = [0, 1, 2]
    ∧ [BusState.silent, .active, .fault, .mute].map BusState.code = [0, 1, 2, 3]
    ∧ [Condition.inService, .failed].map Condition.code = [0, 1]
    ∧ [Quiesce.none, .quiescing, .quiesced].map Quiesce.code = [0, 1, 2]
    ∧ (∀ k : CallClass, levelCode (some k) = k.val) ∧ levelCode none = 4
    ∧ [Method.ascending, .descending, .rotating].map Method.code = [0, 1, 2]
    ∧ [Parity.even, .odd].map Parity.code = [0, 1] ∧ [LossPolicy.hold, .default].map LossPolicy.code = [0, 1]
    ∧ [SlotState.free, .waiting, .seizing, .offered, .ended].map SlotState.code = [0, 1, 2, 3, 4]
    ∧ [Phase.unequipped, .idle, .outSeizing, .outRegister, .outAwaitAnswer, .outAnswered, .outClearedBack, .outReleasing,
        .inRegister, .inAwaitAnswer, .inAnswered, .inClearedBack, .inFailed, .inGuard, .lockout, .resetting,
        .restarting].map Phase.code = (List.range 17).map (· + 1)
    ∧ [none, some RegStep.signalOn, some .signalOff, some .digitWait, some .awaitSignal, some .hostWait,
        some .responding].map stepCode = List.range 7
    ∧ [BadConfig.stationOutsideRing, .baseUnaligned, .baseRepeated, .noneEquipped].map BadConfig.code = [1, 2, 3, 4]
    ∧ [Status.done, .clamped, .truncated, .empty].map Status.code = [0, 1, 2, 3]
    ∧ [Status.unknownOrder, .malformed, .wrongPartPhase, .noSuchCircuit, .stale, .notAllowed, .noSlot, .inUse, .queueFull,
        .notFound, .badConfig].map Status.code = (List.range 11).map (· + 16))

/-- FETCH-REPORT; how a report joins the queue, is rewritten or diverted; attention; the bytes of a report record. Rules:
R98, R169, R170, R171, R172, R173, Table 10-5, Table 12-3. -/
def Obligations.FetchReport : Prop :=
  (∀ s : State, s.inReset = false →
    let answers (t : State) (st : Status) (b : ReplyBody) : Host.Outcome State Fault Refusal :=
      .next { t with port := { reply := some { status := st, body := b }, replyStands := true } }
    (s.reports.queue = [] → exec (.fetchReport []) s = answers s .empty .none)
    ∧ (∀ r rest t, s.reports.queue = r :: rest →
      ((r.kind.ofHunt = false ∧ t = s)
        ∨ (r.kind.ofHunt = true ∧ (∀ ix, (s.huntSlot ix).state = .ended → (s.huntSlot ix).reference ≠ r.reference)
            ∧ t = s)
        ∨ (r.kind.ofHunt = true ∧ ∃ ix, (s.huntSlot ix).state = .ended ∧ (s.huntSlot ix).reference = r.reference
            ∧ (∀ j, j < ix → ¬ ((s.huntSlot j).state = .ended ∧ (s.huntSlot j).reference = r.reference))
            ∧ t = s.putHuntSlot ix { state := .free, reference := none, circuit := none, cancelMark := false })) →
      ((32 < rest.length ∨ (s.reports.resync = 0 ∧ s.reports.viewChanged = false)) →
        exec (.fetchReport []) s = answers { t with reports := { s.reports with queue := rest } } .done (.report r))
      ∧ (rest.length ≤ 32 → (s.reports.resync ≠ 0 ∨ s.reports.viewChanged = true) →
        ∃ numbers : List Nat, numbers.Pairwise (· ≤ ·)
          ∧ numbers.Perm (((List.finRange 48).filter fun x => s.reports.resync.getLsbD x.val).map s.circuitNumber)
          ∧ exec (.fetchReport []) s = answers { t with reports :=
              { queue := rest ++ [{ s.report .resync with
                  circuits := some numbers, viewChanged := s.reports.viewChanged }]
                resync := 0, viewChanged := false } } .done (.report r))))
  ∧ (∀ (s : State) (d : Option Slot) (r : Report),
      let ofSpan (k : ReportKind) : Prop := k = .spanFailed ∨ k = .spanRestored ∨ k = .spanQuiesced
      let ofBus (k : ReportKind) : Prop := k = .busStuck ∨ k = .busRecovered
      let guaranteed : Prop := r.kind ∈ [ReportKind.huntGranted, .huntCongestion, .huntTimeout, .huntFailed, .huntCancelled,
        .duplicateStation, .restartDone] ∨ ofSpan r.kind ∨ ofBus r.kind
      let owned (q : Report) : Prop := (ofSpan r.kind ∧ ofSpan q.kind ∧ q.span = r.span) ∨ (ofBus r.kind ∧ ofBus q.kind)
      let queued (queue : List Report) : State := { s with reports := { s.reports with queue := queue } }
      (guaranteed → (∀ q ∈ s.reports.queue, ¬ owned q) → s.post d r = queued (s.reports.queue ++ [r]))
      ∧ (∀ pre q post, guaranteed → s.reports.queue = pre ++ q :: post → owned q →
          (∀ p ∈ pre ++ post, ¬ owned p) → s.post d r = queued (pre ++ r :: post))
      ∧ (¬ guaranteed → s.reports.queue.length < 40 → s.post d r = queued (s.reports.queue ++ [r]))
      ∧ (∀ x, ¬ guaranteed → 40 ≤ s.reports.queue.length → d = some x → ∃ set : BitVec 48,
          (∀ y : Slot, set.getLsbD y.val = (s.reports.resync.getLsbD y.val || y = x))
            ∧ s.post d r = { s with reports := { s.reports with resync := set } })
      ∧ (¬ guaranteed → 40 ≤ s.reports.queue.length → d = none →
          s.post d r = { s with reports := { s.reports with viewChanged := true } })
      ∧ (s.attention = true ↔ s.reports.queue ≠ []))
  ∧ (∀ r : Report,
      let word (n : Nat) : List Byte := [BitVec.ofNat 8 (n / 256), BitVec.ofNat 8 n]
      let bit (present : Bool) (n : Nat) : BitVec 8 := if present then BitVec.twoPow 8 n else 0
      reportBytes r =
        [BitVec.ofNat 8 r.kind.code, r.stamp.extractLsb' 24 8, r.stamp.extractLsb' 16 8, r.stamp.extractLsb' 8 8,
         r.stamp.extractLsb' 0 8,
         bit r.circuit.isSome 7 ||| bit r.reference.isSome 6 ||| bit r.station.isSome 5 ||| bit r.span.isSome 4
           ||| bit r.phase.isSome 3 ||| bit r.category.isSome 2 ||| bit r.digits.isSome 1 ||| bit r.circuits.isSome 0,
         BitVec.ofNat 8 r.detail1, BitVec.ofNat 8 r.detail2]
        ++ (match r.circuit with | some n => word n | none => [])
        ++ (match r.reference with | some x => word x.toNat | none => [])
        ++ (match r.station with | some st => [BitVec.ofNat 8 st.val, BitVec.ofNat 8 r.tag] | none => [])
        ++ (match r.span with | some sp => [BitVec.ofNat 8 sp.val] | none => [])
        ++ (match r.phase with | some p => [BitVec.ofNat 8 p.1.code, BitVec.ofNat 8 (stepCode p.2)] | none => [])
        ++ (match r.category with | some k => [BitVec.ofNat 8 (k.val + 1)] | none => [])
        ++ (match r.digits with | some ds => digitList ds | none => [])
        ++ (match r.circuits with
            | some ns => [BitVec.ofNat 8 ns.length] ++ ns.flatMap word ++ [BitVec.ofNat 8 (flag r.viewChanged)]
            | none => []))

/-- ADD-DIGITS appends what fits, sets the complete flag and, in DIGIT-WAIT, sends the next forward item. Rules: R58, R59,
R67, R68. -/
def Obligations.AddDigits : Prop :=
  ∀ (s : State) (slot : Slot) (n expected : Nat) (complete : Bool) (ds : List Digit),
    s.inReset = false → s.partPhase = .run → ds.length ≤ 24 →
    let f := namedBytes n expected ++ byteOf (flag complete) ++ digitList ds
    s.Names f slot →
    let c := s.circuit slot
    let answers (t : State) (st : Status) (b : ReplyBody) : Host.Outcome State Fault Refusal :=
      .next { t with port := { reply := some { status := st, body := b }, replyStands := true } }
    let q := c.call.send
    let taken := ds.take (24 - q.digits.length)
    let joined : Circuit :=
      { c with call := { c.call with
          send := { q with digits := q.digits ++ taken, complete := q.complete || complete } } }
    let status : Status := if taken.length < ds.length then .truncated else .done
    let put (after : Circuit) : Host.Outcome State Fault Refusal :=
      answers (s.writeCircuit slot after) status (.phaseStepCount after.phase after.call.step taken.length)
    ((c.phase = .outSeizing ∨ c.phase = .outRegister) → q.complete = false →
      c.sendCode = s.sendingCode slot c → (∀ i, q.last = .digit i → i < q.digits.length) →
      (c.phase = .outRegister → c.call.step = some .digitWait → (taken ≠ [] ∨ complete = true) →
        exec (.addDigits f) s = put (s.itemSent slot joined))
      ∧ (¬ (c.phase = .outRegister ∧ c.call.step = some .digitWait ∧ (taken ≠ [] ∨ complete = true)) →
        exec (.addDigits f) s = put joined))
    ∧ (((c.phase ≠ .outSeizing ∧ c.phase ≠ .outRegister) ∨ q.complete = true) →
      exec (.addDigits f) s = answers s .notAllowed (.phaseStep c.phase c.call.step))

/-- RESPOND: the buffer effect, the limit, the code put on the line and the step. Rules: R77. -/
def Obligations.RespondOrder : Prop :=
  ∀ (s : State) (slot : Slot) (n expected : Nat) (r : Code) (extension : Option Nat),
    s.inReset = false → s.partPhase = .run → 2 ≤ r.val → r.val ≤ 10 → (∀ m, extension = some m → m ≤ 24) →
    let f := namedBytes n expected ++ byteOf r.val ++ byteOf (extension.getD 255)
    s.Names f slot →
    let c := s.circuit slot
    let a := c.recog.accepted
    let b := c.call.buffer
    let answers (t : State) (st : Status) (x : ReplyBody) : Host.Outcome State Fault Refusal :=
      .next { t with port := { reply := some { status := st, body := x }, replyStands := true } }
    let limited (b' : ReceiveBuffer) : ReceiveBuffer := match extension with
      | some m => { b' with limit := if 24 < b'.digits.length + m then 24 else b'.digits.length + m }
      | none => b'
    let puts (b' : ReceiveBuffer) (code : Code) : Host.Outcome State Fault Refusal :=
      answers (s.writeCircuit slot (s.answering slot { c with call := { c.call with buffer := limited b' } } code))
        .done (.phaseStep .inRegister (some .responding))
    let isCategory : Prop := 1 ≤ a.val ∧ a.val ≤ 4 ∧ b.lastResponse = some 5
    (c.phase = .inRegister → c.call.step = some .hostWait →
      (r ≠ 3 → r ≠ 4 → exec (.respond f) s = puts b r)
      ∧ (r = 4 → exec (.respond f) s = puts { b with digits := [], endReceived := false } 4)
      ∧ (r = 3 → a = 11 → exec (.respond f) s = puts { b with endReceived := false } 3)
      ∧ (r = 3 → isCategory → exec (.respond f) s = puts { b with category := none } 5)
      ∧ (r = 3 → ¬ isCategory → 1 ≤ a.val → a.val ≤ 10 →
        exec (.respond f) s = puts { b with digits := b.digits.dropLast } 3)
      ∧ (r = 3 → (a = 0 ∨ 12 ≤ a.val) → exec (.respond f) s = puts b 3))
    ∧ (¬ (c.phase = .inRegister ∧ c.call.step = some .hostWait) →
      exec (.respond f) s = answers s .notAllowed (.phaseStep c.phase c.call.step))

/-- The ANSWER and CLEAR-BACK orders: taken, pended, unpended, and refused elsewhere. Rules: R30, R37, R39. -/
def Obligations.AnswerAndClearBackOrders : Prop :=
  ∀ (s : State) (slot : Slot) (f : List Byte), s.inReset = false → s.partPhase = .run → f.length = 3 → s.Names f slot →
    let c := s.circuit slot
    let answers (t : State) (st : Status) (d : Circuit) : Host.Outcome State Fault Refusal :=
      .next { t with port :=
        { reply := some { status := st, body := .phaseStep d.phase d.call.step }, replyStands := true } }
    let puts (d : Circuit) : Host.Outcome State Fault Refusal := answers (s.writeCircuit slot d) .done d
    let pends : Prop := c.phase = .inRegister ∧ c.call.step = some .responding
      ∧ (c.call.buffer.lastResponse = some 6 ∨ c.call.buffer.lastResponse = some 7)
    ((c.phase = .inAwaitAnswer ∨ c.phase = .inClearedBack) →
      exec (.answer f) s = puts { c with phase := .inAnswered, sendCode := 11, timer := none })
    ∧ (pends → c.sendCode = s.sendingCode slot c →
      exec (.answer f) s = puts { c with call := { c.call with answerPending := true } })
    ∧ (c.phase ≠ .inAwaitAnswer → c.phase ≠ .inClearedBack → ¬ pends → exec (.answer f) s = answers s .notAllowed c)
    ∧ ((c.phase = .inAnswered ∨ c.phase = .inAwaitAnswer) →
      exec (.clearBack f) s = puts { c with phase := .inClearedBack, sendCode := 12, timer := none })
    ∧ (c.phase = .inRegister → c.call.answerPending = true → c.sendCode = s.sendingCode slot c →
      exec (.clearBack f) s = puts { c with call := { c.call with answerPending := false } })
    ∧ (c.phase ≠ .inAnswered → c.phase ≠ .inAwaitAnswer → ¬ (c.phase = .inRegister ∧ c.call.answerPending = true) →
      exec (.clearBack f) s = answers s .notAllowed c)

/-- The CLEAR-FORWARD and RESET-CIRCUIT orders. Rules: R28, R47, R54, R109. -/
def Obligations.ClearForwardAndResetOrders : Prop :=
  ∀ (s : State) (slot : Slot) (f : List Byte), s.inReset = false → s.partPhase = .run → f.length = 3 → s.Names f slot →
    let c := s.circuit slot
    let answers (t : State) (st : Status) (p : Phase) (step : Option RegStep) : Host.Outcome State Fault Refusal :=
      .next { t with port := { reply := some { status := st, body := .phaseStep p step }, replyStands := true } }
    let dropped (reason : Nat) : State := match c.call.owner with
      | some (.ofHost ix r) =>
        if c.phase = .outSeizing then
          s.endSlot ix r { s.report .huntCancelled with detail1 := reason, circuit := some (s.circuitNumber slot) }
        else s
      | _ => s
    (c.phase.isOut = true → c.phase ≠ .outReleasing →
      exec (.clearForward f) s = answers ((dropped 2).writeCircuit slot (s.releasing slot c)) .done .outReleasing none)
    ∧ ((c.phase.isOut = false ∨ c.phase = .outReleasing) →
      exec (.clearForward f) s = answers s .notAllowed c.phase c.call.step)
    ∧ (c.phase ≠ .unequipped → c.phase ≠ .restarting →
      exec (.resetCircuit f) s = answers (((dropped 3).writeCircuit slot (s.resettingAt slot c)).settle slot c)
        .done .resetting none)
    ∧ ((c.phase = .unequipped ∨ c.phase = .restarting) →
      exec (.resetCircuit f) s = answers s .notAllowed c.phase c.call.step)

/-- BLOCK and UNBLOCK set and clear HOST; the last reason of an IDLE circuit takes a standing seizure. Rules: R8, R28,
R89, R90, R91, R153. -/
def Obligations.BlockAndUnblock : Prop :=
  ∀ (s : State) (slot : Slot) (f : List Byte), s.inReset = false → s.partPhase = .run → f.length = 3 → s.Names f slot →
    let c := s.circuit slot
    let done (t : State) (d : Circuit) : Host.Outcome State Fault Refusal :=
      .next { t.settle slot c with port :=
        { reply := some { status := .done, body := .phaseStep d.phase d.call.step }, replyStands := true } }
    let puts (d : Circuit) : Host.Outcome State Fault Refusal := done (s.writeCircuit slot d) d
    let takes : Prop := c.phase = .idle ∧ c.hostBlock = true ∧ c.quiesceBlock = false ∧ c.recog.accepted = 12
      ∧ s.failed (spanOf slot) = false
    (c.phase = .idle → exec (.block f) s = puts { c with hostBlock := true, sendCode := 14 })
    ∧ (c.phase ≠ .idle → c.sendCode = s.sendingCode slot c → exec (.block f) s = puts { c with hostBlock := true })
    ∧ (takes →
      let after := s.seized slot { c with hostBlock := false }
      exec (.unblock f) s = done ((s.post (some slot) (s.says .incomingSeizure slot after 0)).writeCircuit slot after)
        after)
    ∧ (¬ takes → c.phase = .idle →
      exec (.unblock f) s = puts { c with hostBlock := false, sendCode := s.freeCode slot c.quiesceBlock })
    ∧ (c.phase ≠ .idle → c.sendCode = s.sendingCode slot c → exec (.unblock f) s = puts { c with hostBlock := false })

/-- Every command keeps F the number of eligible circuits and L the level the thresholds give for it. Rules: R26, R97,
R103, R104, R113. -/
def Obligations.FreeCountHolds : Prop :=
  ∀ s t : State, s.Counted → step s = .next t → t.Counted

/-- Every command keeps each circuit record's optional fields in the phases that have them. Rules: R27, R29, R57, Table
3-2. -/
def Obligations.CircuitRecordsShaped : Prop :=
  ∀ s t : State, s.Shaped → step s = .next t → t.Shaped

/-- Every command keeps every slot sending what the sending table gives. Rules: R7, R8, R150, R155, Table 1-3. -/
def Obligations.SendingTableKept : Prop :=
  ∀ s t : State, s.SendsByTable → step s = .next t → t.SendsByTable

/-- Every command keeps the restarting count the number of RESTARTING circuits, not 0 exactly in STARTING. Rules: R178,
R179. -/
def Obligations.RestartingCountHolds : Prop :=
  ∀ s t : State, s.RestartCounted → step s = .next t → t.RestartCounted

/-- Every command keeps digit lists at most 24 long, the queues at most 8 and 16, the offer table at most 8 with distinct
tags. Rules: R58, R72, R101, R123, R130, R131. -/
def Obligations.ListsStayBounded : Prop :=
  ∀ s t : State, s.DigitsWithin → s.ListsWithin → step s = .next t → t.DigitsWithin ∧ t.ListsWithin

/-- Every command keeps the highway, recognizers, spans, neighbour view and bus within their ranges. Rules: R3, R14, R17,
R116, R117, R122, R124, R128, R129, R148. -/
def Obligations.RangesStayKept : Prop :=
  ∀ s t : State, s.RangesKept → step s = .next t → t.RangesKept

/-- Every command keeps one hunt outcome in the report queue for each ENDED slot, and distinct references. Rules: R97,
R98, R99, R109, R111, R112, R172. -/
def Obligations.OneOutcomePerSlot : Prop :=
  ∀ s t : State, s.SlotsAccounted → step s = .next t → t.SlotsAccounted

/-- Every command keeps the report queue's classes counted, so that it never holds more than 62 reports. Rules: R109,
R126, R169, R170, R179. -/
def Obligations.ReportQueueBounded : Prop :=
  ∀ s t : State, s.SlotsAccounted → s.RestartCounted → s.ReportsCounted → step s = .next t →
    (t.SlotsAccounted ∧ t.RestartCounted ∧ t.ReportsCounted) ∧ t.reports.queue.length ≤ 62
end

