-- ==== Sys2Proof/Laws/State.lean ====
section
/-! SUPPORT. Reading a field of the state after another was set: one lemma per field per update, each true by rfl, so that no
later proof unfolds a record update. -/

namespace Sys2Proof.Machine

@[simp] theorem State.setPending_pending (s : State) (v : List Instr) : (s.setPending v).pending = v := rfl
@[simp] theorem State.setPending_inReset (s : State) (v : List Instr) : (s.setPending v).inReset = s.inReset := rfl
@[simp] theorem State.setPending_partPhase (s : State) (v : List Instr) : (s.setPending v).partPhase = s.partPhase := rfl
@[simp] theorem State.setPending_tick (s : State) (v : List Instr) : (s.setPending v).tick = s.tick := rfl
@[simp] theorem State.setPending_station (s : State) (v : List Instr) : (s.setPending v).station = s.station := rfl
@[simp] theorem State.setPending_settings (s : State) (v : List Instr) : (s.setPending v).settings = s.settings := rfl
@[simp] theorem State.setPending_highway (s : State) (v : List Instr) : (s.setPending v).highway = s.highway := rfl
@[simp] theorem State.setPending_circuits (s : State) (v : List Instr) : (s.setPending v).circuits = s.circuits := rfl
@[simp] theorem State.setPending_restarting (s : State) (v : List Instr) : (s.setPending v).restarting = s.restarting := rfl
@[simp] theorem State.setPending_spans (s : State) (v : List Instr) : (s.setPending v).spans = s.spans := rfl
@[simp] theorem State.setPending_hunt (s : State) (v : List Instr) : (s.setPending v).hunt = s.hunt := rfl
@[simp] theorem State.setPending_offers (s : State) (v : List Instr) : (s.setPending v).offers = s.offers := rfl
@[simp] theorem State.setPending_bus (s : State) (v : List Instr) : (s.setPending v).bus = s.bus := rfl
@[simp] theorem State.setPending_reports (s : State) (v : List Instr) : (s.setPending v).reports = s.reports := rfl
@[simp] theorem State.setPending_port (s : State) (v : List Instr) : (s.setPending v).port = s.port := rfl
@[simp] theorem State.setPending_events (s : State) (v : List Instr) : (s.setPending v).events = s.events := rfl

@[simp] theorem State.setInReset_pending (s : State) (v : Bool) : (s.setInReset v).pending = s.pending := rfl
@[simp] theorem State.setInReset_inReset (s : State) (v : Bool) : (s.setInReset v).inReset = v := rfl
@[simp] theorem State.setInReset_partPhase (s : State) (v : Bool) : (s.setInReset v).partPhase = s.partPhase := rfl
@[simp] theorem State.setInReset_tick (s : State) (v : Bool) : (s.setInReset v).tick = s.tick := rfl
@[simp] theorem State.setInReset_station (s : State) (v : Bool) : (s.setInReset v).station = s.station := rfl
@[simp] theorem State.setInReset_settings (s : State) (v : Bool) : (s.setInReset v).settings = s.settings := rfl
@[simp] theorem State.setInReset_highway (s : State) (v : Bool) : (s.setInReset v).highway = s.highway := rfl
@[simp] theorem State.setInReset_circuits (s : State) (v : Bool) : (s.setInReset v).circuits = s.circuits := rfl
@[simp] theorem State.setInReset_restarting (s : State) (v : Bool) : (s.setInReset v).restarting = s.restarting := rfl
@[simp] theorem State.setInReset_spans (s : State) (v : Bool) : (s.setInReset v).spans = s.spans := rfl
@[simp] theorem State.setInReset_hunt (s : State) (v : Bool) : (s.setInReset v).hunt = s.hunt := rfl
@[simp] theorem State.setInReset_offers (s : State) (v : Bool) : (s.setInReset v).offers = s.offers := rfl
@[simp] theorem State.setInReset_bus (s : State) (v : Bool) : (s.setInReset v).bus = s.bus := rfl
@[simp] theorem State.setInReset_reports (s : State) (v : Bool) : (s.setInReset v).reports = s.reports := rfl
@[simp] theorem State.setInReset_port (s : State) (v : Bool) : (s.setInReset v).port = s.port := rfl
@[simp] theorem State.setInReset_events (s : State) (v : Bool) : (s.setInReset v).events = s.events := rfl

@[simp] theorem State.setPartPhase_pending (s : State) (v : PartPhase) : (s.setPartPhase v).pending = s.pending := rfl
@[simp] theorem State.setPartPhase_inReset (s : State) (v : PartPhase) : (s.setPartPhase v).inReset = s.inReset := rfl
@[simp] theorem State.setPartPhase_partPhase (s : State) (v : PartPhase) : (s.setPartPhase v).partPhase = v := rfl
@[simp] theorem State.setPartPhase_tick (s : State) (v : PartPhase) : (s.setPartPhase v).tick = s.tick := rfl
@[simp] theorem State.setPartPhase_station (s : State) (v : PartPhase) : (s.setPartPhase v).station = s.station := rfl
@[simp] theorem State.setPartPhase_settings (s : State) (v : PartPhase) : (s.setPartPhase v).settings = s.settings := rfl
@[simp] theorem State.setPartPhase_highway (s : State) (v : PartPhase) : (s.setPartPhase v).highway = s.highway := rfl
@[simp] theorem State.setPartPhase_circuits (s : State) (v : PartPhase) : (s.setPartPhase v).circuits = s.circuits := rfl
@[simp] theorem State.setPartPhase_restarting (s : State) (v : PartPhase) : (s.setPartPhase v).restarting = s.restarting := rfl
@[simp] theorem State.setPartPhase_spans (s : State) (v : PartPhase) : (s.setPartPhase v).spans = s.spans := rfl
@[simp] theorem State.setPartPhase_hunt (s : State) (v : PartPhase) : (s.setPartPhase v).hunt = s.hunt := rfl
@[simp] theorem State.setPartPhase_offers (s : State) (v : PartPhase) : (s.setPartPhase v).offers = s.offers := rfl
@[simp] theorem State.setPartPhase_bus (s : State) (v : PartPhase) : (s.setPartPhase v).bus = s.bus := rfl
@[simp] theorem State.setPartPhase_reports (s : State) (v : PartPhase) : (s.setPartPhase v).reports = s.reports := rfl
@[simp] theorem State.setPartPhase_port (s : State) (v : PartPhase) : (s.setPartPhase v).port = s.port := rfl
@[simp] theorem State.setPartPhase_events (s : State) (v : PartPhase) : (s.setPartPhase v).events = s.events := rfl

@[simp] theorem State.setTick_pending (s : State) (v : Stamp) : (s.setTick v).pending = s.pending := rfl
@[simp] theorem State.setTick_inReset (s : State) (v : Stamp) : (s.setTick v).inReset = s.inReset := rfl
@[simp] theorem State.setTick_partPhase (s : State) (v : Stamp) : (s.setTick v).partPhase = s.partPhase := rfl
@[simp] theorem State.setTick_tick (s : State) (v : Stamp) : (s.setTick v).tick = v := rfl
@[simp] theorem State.setTick_station (s : State) (v : Stamp) : (s.setTick v).station = s.station := rfl
@[simp] theorem State.setTick_settings (s : State) (v : Stamp) : (s.setTick v).settings = s.settings := rfl
@[simp] theorem State.setTick_highway (s : State) (v : Stamp) : (s.setTick v).highway = s.highway := rfl
@[simp] theorem State.setTick_circuits (s : State) (v : Stamp) : (s.setTick v).circuits = s.circuits := rfl
@[simp] theorem State.setTick_restarting (s : State) (v : Stamp) : (s.setTick v).restarting = s.restarting := rfl
@[simp] theorem State.setTick_spans (s : State) (v : Stamp) : (s.setTick v).spans = s.spans := rfl
@[simp] theorem State.setTick_hunt (s : State) (v : Stamp) : (s.setTick v).hunt = s.hunt := rfl
@[simp] theorem State.setTick_offers (s : State) (v : Stamp) : (s.setTick v).offers = s.offers := rfl
@[simp] theorem State.setTick_bus (s : State) (v : Stamp) : (s.setTick v).bus = s.bus := rfl
@[simp] theorem State.setTick_reports (s : State) (v : Stamp) : (s.setTick v).reports = s.reports := rfl
@[simp] theorem State.setTick_port (s : State) (v : Stamp) : (s.setTick v).port = s.port := rfl
@[simp] theorem State.setTick_events (s : State) (v : Stamp) : (s.setTick v).events = s.events := rfl

@[simp] theorem State.setStation_pending (s : State) (v : Station) : (s.setStation v).pending = s.pending := rfl
@[simp] theorem State.setStation_inReset (s : State) (v : Station) : (s.setStation v).inReset = s.inReset := rfl
@[simp] theorem State.setStation_partPhase (s : State) (v : Station) : (s.setStation v).partPhase = s.partPhase := rfl
@[simp] theorem State.setStation_tick (s : State) (v : Station) : (s.setStation v).tick = s.tick := rfl
@[simp] theorem State.setStation_station (s : State) (v : Station) : (s.setStation v).station = v := rfl
@[simp] theorem State.setStation_settings (s : State) (v : Station) : (s.setStation v).settings = s.settings := rfl
@[simp] theorem State.setStation_highway (s : State) (v : Station) : (s.setStation v).highway = s.highway := rfl
@[simp] theorem State.setStation_circuits (s : State) (v : Station) : (s.setStation v).circuits = s.circuits := rfl
@[simp] theorem State.setStation_restarting (s : State) (v : Station) : (s.setStation v).restarting = s.restarting := rfl
@[simp] theorem State.setStation_spans (s : State) (v : Station) : (s.setStation v).spans = s.spans := rfl
@[simp] theorem State.setStation_hunt (s : State) (v : Station) : (s.setStation v).hunt = s.hunt := rfl
@[simp] theorem State.setStation_offers (s : State) (v : Station) : (s.setStation v).offers = s.offers := rfl
@[simp] theorem State.setStation_bus (s : State) (v : Station) : (s.setStation v).bus = s.bus := rfl
@[simp] theorem State.setStation_reports (s : State) (v : Station) : (s.setStation v).reports = s.reports := rfl
@[simp] theorem State.setStation_port (s : State) (v : Station) : (s.setStation v).port = s.port := rfl
@[simp] theorem State.setStation_events (s : State) (v : Station) : (s.setStation v).events = s.events := rfl

@[simp] theorem State.setSettings_pending (s : State) (v : Settings) : (s.setSettings v).pending = s.pending := rfl
@[simp] theorem State.setSettings_inReset (s : State) (v : Settings) : (s.setSettings v).inReset = s.inReset := rfl
@[simp] theorem State.setSettings_partPhase (s : State) (v : Settings) : (s.setSettings v).partPhase = s.partPhase := rfl
@[simp] theorem State.setSettings_tick (s : State) (v : Settings) : (s.setSettings v).tick = s.tick := rfl
@[simp] theorem State.setSettings_station (s : State) (v : Settings) : (s.setSettings v).station = s.station := rfl
@[simp] theorem State.setSettings_settings (s : State) (v : Settings) : (s.setSettings v).settings = v := rfl
@[simp] theorem State.setSettings_highway (s : State) (v : Settings) : (s.setSettings v).highway = s.highway := rfl
@[simp] theorem State.setSettings_circuits (s : State) (v : Settings) : (s.setSettings v).circuits = s.circuits := rfl
@[simp] theorem State.setSettings_restarting (s : State) (v : Settings) : (s.setSettings v).restarting = s.restarting := rfl
@[simp] theorem State.setSettings_spans (s : State) (v : Settings) : (s.setSettings v).spans = s.spans := rfl
@[simp] theorem State.setSettings_hunt (s : State) (v : Settings) : (s.setSettings v).hunt = s.hunt := rfl
@[simp] theorem State.setSettings_offers (s : State) (v : Settings) : (s.setSettings v).offers = s.offers := rfl
@[simp] theorem State.setSettings_bus (s : State) (v : Settings) : (s.setSettings v).bus = s.bus := rfl
@[simp] theorem State.setSettings_reports (s : State) (v : Settings) : (s.setSettings v).reports = s.reports := rfl
@[simp] theorem State.setSettings_port (s : State) (v : Settings) : (s.setSettings v).port = s.port := rfl
@[simp] theorem State.setSettings_events (s : State) (v : Settings) : (s.setSettings v).events = s.events := rfl

@[simp] theorem State.setHighway_pending (s : State) (v : Highway) : (s.setHighway v).pending = s.pending := rfl
@[simp] theorem State.setHighway_inReset (s : State) (v : Highway) : (s.setHighway v).inReset = s.inReset := rfl
@[simp] theorem State.setHighway_partPhase (s : State) (v : Highway) : (s.setHighway v).partPhase = s.partPhase := rfl
@[simp] theorem State.setHighway_tick (s : State) (v : Highway) : (s.setHighway v).tick = s.tick := rfl
@[simp] theorem State.setHighway_station (s : State) (v : Highway) : (s.setHighway v).station = s.station := rfl
@[simp] theorem State.setHighway_settings (s : State) (v : Highway) : (s.setHighway v).settings = s.settings := rfl
@[simp] theorem State.setHighway_highway (s : State) (v : Highway) : (s.setHighway v).highway = v := rfl
@[simp] theorem State.setHighway_circuits (s : State) (v : Highway) : (s.setHighway v).circuits = s.circuits := rfl
@[simp] theorem State.setHighway_restarting (s : State) (v : Highway) : (s.setHighway v).restarting = s.restarting := rfl
@[simp] theorem State.setHighway_spans (s : State) (v : Highway) : (s.setHighway v).spans = s.spans := rfl
@[simp] theorem State.setHighway_hunt (s : State) (v : Highway) : (s.setHighway v).hunt = s.hunt := rfl
@[simp] theorem State.setHighway_offers (s : State) (v : Highway) : (s.setHighway v).offers = s.offers := rfl
@[simp] theorem State.setHighway_bus (s : State) (v : Highway) : (s.setHighway v).bus = s.bus := rfl
@[simp] theorem State.setHighway_reports (s : State) (v : Highway) : (s.setHighway v).reports = s.reports := rfl
@[simp] theorem State.setHighway_port (s : State) (v : Highway) : (s.setHighway v).port = s.port := rfl
@[simp] theorem State.setHighway_events (s : State) (v : Highway) : (s.setHighway v).events = s.events := rfl

@[simp] theorem State.setCircuits_pending (s : State) (v : Vector Circuit 48) : (s.setCircuits v).pending = s.pending := rfl
@[simp] theorem State.setCircuits_inReset (s : State) (v : Vector Circuit 48) : (s.setCircuits v).inReset = s.inReset := rfl
@[simp] theorem State.setCircuits_partPhase (s : State) (v : Vector Circuit 48) : (s.setCircuits v).partPhase = s.partPhase := rfl
@[simp] theorem State.setCircuits_tick (s : State) (v : Vector Circuit 48) : (s.setCircuits v).tick = s.tick := rfl
@[simp] theorem State.setCircuits_station (s : State) (v : Vector Circuit 48) : (s.setCircuits v).station = s.station := rfl
@[simp] theorem State.setCircuits_settings (s : State) (v : Vector Circuit 48) : (s.setCircuits v).settings = s.settings := rfl
@[simp] theorem State.setCircuits_highway (s : State) (v : Vector Circuit 48) : (s.setCircuits v).highway = s.highway := rfl
@[simp] theorem State.setCircuits_circuits (s : State) (v : Vector Circuit 48) : (s.setCircuits v).circuits = v := rfl
@[simp] theorem State.setCircuits_restarting (s : State) (v : Vector Circuit 48) : (s.setCircuits v).restarting = s.restarting := rfl
@[simp] theorem State.setCircuits_spans (s : State) (v : Vector Circuit 48) : (s.setCircuits v).spans = s.spans := rfl
@[simp] theorem State.setCircuits_hunt (s : State) (v : Vector Circuit 48) : (s.setCircuits v).hunt = s.hunt := rfl
@[simp] theorem State.setCircuits_offers (s : State) (v : Vector Circuit 48) : (s.setCircuits v).offers = s.offers := rfl
@[simp] theorem State.setCircuits_bus (s : State) (v : Vector Circuit 48) : (s.setCircuits v).bus = s.bus := rfl
@[simp] theorem State.setCircuits_reports (s : State) (v : Vector Circuit 48) : (s.setCircuits v).reports = s.reports := rfl
@[simp] theorem State.setCircuits_port (s : State) (v : Vector Circuit 48) : (s.setCircuits v).port = s.port := rfl
@[simp] theorem State.setCircuits_events (s : State) (v : Vector Circuit 48) : (s.setCircuits v).events = s.events := rfl

@[simp] theorem State.setRestarting_pending (s : State) (v : Nat) : (s.setRestarting v).pending = s.pending := rfl
@[simp] theorem State.setRestarting_inReset (s : State) (v : Nat) : (s.setRestarting v).inReset = s.inReset := rfl
@[simp] theorem State.setRestarting_partPhase (s : State) (v : Nat) : (s.setRestarting v).partPhase = s.partPhase := rfl
@[simp] theorem State.setRestarting_tick (s : State) (v : Nat) : (s.setRestarting v).tick = s.tick := rfl
@[simp] theorem State.setRestarting_station (s : State) (v : Nat) : (s.setRestarting v).station = s.station := rfl
@[simp] theorem State.setRestarting_settings (s : State) (v : Nat) : (s.setRestarting v).settings = s.settings := rfl
@[simp] theorem State.setRestarting_highway (s : State) (v : Nat) : (s.setRestarting v).highway = s.highway := rfl
@[simp] theorem State.setRestarting_circuits (s : State) (v : Nat) : (s.setRestarting v).circuits = s.circuits := rfl
@[simp] theorem State.setRestarting_restarting (s : State) (v : Nat) : (s.setRestarting v).restarting = v := rfl
@[simp] theorem State.setRestarting_spans (s : State) (v : Nat) : (s.setRestarting v).spans = s.spans := rfl
@[simp] theorem State.setRestarting_hunt (s : State) (v : Nat) : (s.setRestarting v).hunt = s.hunt := rfl
@[simp] theorem State.setRestarting_offers (s : State) (v : Nat) : (s.setRestarting v).offers = s.offers := rfl
@[simp] theorem State.setRestarting_bus (s : State) (v : Nat) : (s.setRestarting v).bus = s.bus := rfl
@[simp] theorem State.setRestarting_reports (s : State) (v : Nat) : (s.setRestarting v).reports = s.reports := rfl
@[simp] theorem State.setRestarting_port (s : State) (v : Nat) : (s.setRestarting v).port = s.port := rfl
@[simp] theorem State.setRestarting_events (s : State) (v : Nat) : (s.setRestarting v).events = s.events := rfl

@[simp] theorem State.setSpans_pending (s : State) (v : Vector Span 3) : (s.setSpans v).pending = s.pending := rfl
@[simp] theorem State.setSpans_inReset (s : State) (v : Vector Span 3) : (s.setSpans v).inReset = s.inReset := rfl
@[simp] theorem State.setSpans_partPhase (s : State) (v : Vector Span 3) : (s.setSpans v).partPhase = s.partPhase := rfl
@[simp] theorem State.setSpans_tick (s : State) (v : Vector Span 3) : (s.setSpans v).tick = s.tick := rfl
@[simp] theorem State.setSpans_station (s : State) (v : Vector Span 3) : (s.setSpans v).station = s.station := rfl
@[simp] theorem State.setSpans_settings (s : State) (v : Vector Span 3) : (s.setSpans v).settings = s.settings := rfl
@[simp] theorem State.setSpans_highway (s : State) (v : Vector Span 3) : (s.setSpans v).highway = s.highway := rfl
@[simp] theorem State.setSpans_circuits (s : State) (v : Vector Span 3) : (s.setSpans v).circuits = s.circuits := rfl
@[simp] theorem State.setSpans_restarting (s : State) (v : Vector Span 3) : (s.setSpans v).restarting = s.restarting := rfl
@[simp] theorem State.setSpans_spans (s : State) (v : Vector Span 3) : (s.setSpans v).spans = v := rfl
@[simp] theorem State.setSpans_hunt (s : State) (v : Vector Span 3) : (s.setSpans v).hunt = s.hunt := rfl
@[simp] theorem State.setSpans_offers (s : State) (v : Vector Span 3) : (s.setSpans v).offers = s.offers := rfl
@[simp] theorem State.setSpans_bus (s : State) (v : Vector Span 3) : (s.setSpans v).bus = s.bus := rfl
@[simp] theorem State.setSpans_reports (s : State) (v : Vector Span 3) : (s.setSpans v).reports = s.reports := rfl
@[simp] theorem State.setSpans_port (s : State) (v : Vector Span 3) : (s.setSpans v).port = s.port := rfl
@[simp] theorem State.setSpans_events (s : State) (v : Vector Span 3) : (s.setSpans v).events = s.events := rfl

@[simp] theorem State.setHunt_pending (s : State) (v : Hunt) : (s.setHunt v).pending = s.pending := rfl
@[simp] theorem State.setHunt_inReset (s : State) (v : Hunt) : (s.setHunt v).inReset = s.inReset := rfl
@[simp] theorem State.setHunt_partPhase (s : State) (v : Hunt) : (s.setHunt v).partPhase = s.partPhase := rfl
@[simp] theorem State.setHunt_tick (s : State) (v : Hunt) : (s.setHunt v).tick = s.tick := rfl
@[simp] theorem State.setHunt_station (s : State) (v : Hunt) : (s.setHunt v).station = s.station := rfl
@[simp] theorem State.setHunt_settings (s : State) (v : Hunt) : (s.setHunt v).settings = s.settings := rfl
@[simp] theorem State.setHunt_highway (s : State) (v : Hunt) : (s.setHunt v).highway = s.highway := rfl
@[simp] theorem State.setHunt_circuits (s : State) (v : Hunt) : (s.setHunt v).circuits = s.circuits := rfl
@[simp] theorem State.setHunt_restarting (s : State) (v : Hunt) : (s.setHunt v).restarting = s.restarting := rfl
@[simp] theorem State.setHunt_spans (s : State) (v : Hunt) : (s.setHunt v).spans = s.spans := rfl
@[simp] theorem State.setHunt_hunt (s : State) (v : Hunt) : (s.setHunt v).hunt = v := rfl
@[simp] theorem State.setHunt_offers (s : State) (v : Hunt) : (s.setHunt v).offers = s.offers := rfl
@[simp] theorem State.setHunt_bus (s : State) (v : Hunt) : (s.setHunt v).bus = s.bus := rfl
@[simp] theorem State.setHunt_reports (s : State) (v : Hunt) : (s.setHunt v).reports = s.reports := rfl
@[simp] theorem State.setHunt_port (s : State) (v : Hunt) : (s.setHunt v).port = s.port := rfl
@[simp] theorem State.setHunt_events (s : State) (v : Hunt) : (s.setHunt v).events = s.events := rfl

@[simp] theorem State.setOffers_pending (s : State) (v : Offers) : (s.setOffers v).pending = s.pending := rfl
@[simp] theorem State.setOffers_inReset (s : State) (v : Offers) : (s.setOffers v).inReset = s.inReset := rfl
@[simp] theorem State.setOffers_partPhase (s : State) (v : Offers) : (s.setOffers v).partPhase = s.partPhase := rfl
@[simp] theorem State.setOffers_tick (s : State) (v : Offers) : (s.setOffers v).tick = s.tick := rfl
@[simp] theorem State.setOffers_station (s : State) (v : Offers) : (s.setOffers v).station = s.station := rfl
@[simp] theorem State.setOffers_settings (s : State) (v : Offers) : (s.setOffers v).settings = s.settings := rfl
@[simp] theorem State.setOffers_highway (s : State) (v : Offers) : (s.setOffers v).highway = s.highway := rfl
@[simp] theorem State.setOffers_circuits (s : State) (v : Offers) : (s.setOffers v).circuits = s.circuits := rfl
@[simp] theorem State.setOffers_restarting (s : State) (v : Offers) : (s.setOffers v).restarting = s.restarting := rfl
@[simp] theorem State.setOffers_spans (s : State) (v : Offers) : (s.setOffers v).spans = s.spans := rfl
@[simp] theorem State.setOffers_hunt (s : State) (v : Offers) : (s.setOffers v).hunt = s.hunt := rfl
@[simp] theorem State.setOffers_offers (s : State) (v : Offers) : (s.setOffers v).offers = v := rfl
@[simp] theorem State.setOffers_bus (s : State) (v : Offers) : (s.setOffers v).bus = s.bus := rfl
@[simp] theorem State.setOffers_reports (s : State) (v : Offers) : (s.setOffers v).reports = s.reports := rfl
@[simp] theorem State.setOffers_port (s : State) (v : Offers) : (s.setOffers v).port = s.port := rfl
@[simp] theorem State.setOffers_events (s : State) (v : Offers) : (s.setOffers v).events = s.events := rfl

@[simp] theorem State.setBus_pending (s : State) (v : Bus) : (s.setBus v).pending = s.pending := rfl
@[simp] theorem State.setBus_inReset (s : State) (v : Bus) : (s.setBus v).inReset = s.inReset := rfl
@[simp] theorem State.setBus_partPhase (s : State) (v : Bus) : (s.setBus v).partPhase = s.partPhase := rfl
@[simp] theorem State.setBus_tick (s : State) (v : Bus) : (s.setBus v).tick = s.tick := rfl
@[simp] theorem State.setBus_station (s : State) (v : Bus) : (s.setBus v).station = s.station := rfl
@[simp] theorem State.setBus_settings (s : State) (v : Bus) : (s.setBus v).settings = s.settings := rfl
@[simp] theorem State.setBus_highway (s : State) (v : Bus) : (s.setBus v).highway = s.highway := rfl
@[simp] theorem State.setBus_circuits (s : State) (v : Bus) : (s.setBus v).circuits = s.circuits := rfl
@[simp] theorem State.setBus_restarting (s : State) (v : Bus) : (s.setBus v).restarting = s.restarting := rfl
@[simp] theorem State.setBus_spans (s : State) (v : Bus) : (s.setBus v).spans = s.spans := rfl
@[simp] theorem State.setBus_hunt (s : State) (v : Bus) : (s.setBus v).hunt = s.hunt := rfl
@[simp] theorem State.setBus_offers (s : State) (v : Bus) : (s.setBus v).offers = s.offers := rfl
@[simp] theorem State.setBus_bus (s : State) (v : Bus) : (s.setBus v).bus = v := rfl
@[simp] theorem State.setBus_reports (s : State) (v : Bus) : (s.setBus v).reports = s.reports := rfl
@[simp] theorem State.setBus_port (s : State) (v : Bus) : (s.setBus v).port = s.port := rfl
@[simp] theorem State.setBus_events (s : State) (v : Bus) : (s.setBus v).events = s.events := rfl

@[simp] theorem State.setReports_pending (s : State) (v : Reports) : (s.setReports v).pending = s.pending := rfl
@[simp] theorem State.setReports_inReset (s : State) (v : Reports) : (s.setReports v).inReset = s.inReset := rfl
@[simp] theorem State.setReports_partPhase (s : State) (v : Reports) : (s.setReports v).partPhase = s.partPhase := rfl
@[simp] theorem State.setReports_tick (s : State) (v : Reports) : (s.setReports v).tick = s.tick := rfl
@[simp] theorem State.setReports_station (s : State) (v : Reports) : (s.setReports v).station = s.station := rfl
@[simp] theorem State.setReports_settings (s : State) (v : Reports) : (s.setReports v).settings = s.settings := rfl
@[simp] theorem State.setReports_highway (s : State) (v : Reports) : (s.setReports v).highway = s.highway := rfl
@[simp] theorem State.setReports_circuits (s : State) (v : Reports) : (s.setReports v).circuits = s.circuits := rfl
@[simp] theorem State.setReports_restarting (s : State) (v : Reports) : (s.setReports v).restarting = s.restarting := rfl
@[simp] theorem State.setReports_spans (s : State) (v : Reports) : (s.setReports v).spans = s.spans := rfl
@[simp] theorem State.setReports_hunt (s : State) (v : Reports) : (s.setReports v).hunt = s.hunt := rfl
@[simp] theorem State.setReports_offers (s : State) (v : Reports) : (s.setReports v).offers = s.offers := rfl
@[simp] theorem State.setReports_bus (s : State) (v : Reports) : (s.setReports v).bus = s.bus := rfl
@[simp] theorem State.setReports_reports (s : State) (v : Reports) : (s.setReports v).reports = v := rfl
@[simp] theorem State.setReports_port (s : State) (v : Reports) : (s.setReports v).port = s.port := rfl
@[simp] theorem State.setReports_events (s : State) (v : Reports) : (s.setReports v).events = s.events := rfl

@[simp] theorem State.setPort_pending (s : State) (v : Port) : (s.setPort v).pending = s.pending := rfl
@[simp] theorem State.setPort_inReset (s : State) (v : Port) : (s.setPort v).inReset = s.inReset := rfl
@[simp] theorem State.setPort_partPhase (s : State) (v : Port) : (s.setPort v).partPhase = s.partPhase := rfl
@[simp] theorem State.setPort_tick (s : State) (v : Port) : (s.setPort v).tick = s.tick := rfl
@[simp] theorem State.setPort_station (s : State) (v : Port) : (s.setPort v).station = s.station := rfl
@[simp] theorem State.setPort_settings (s : State) (v : Port) : (s.setPort v).settings = s.settings := rfl
@[simp] theorem State.setPort_highway (s : State) (v : Port) : (s.setPort v).highway = s.highway := rfl
@[simp] theorem State.setPort_circuits (s : State) (v : Port) : (s.setPort v).circuits = s.circuits := rfl
@[simp] theorem State.setPort_restarting (s : State) (v : Port) : (s.setPort v).restarting = s.restarting := rfl
@[simp] theorem State.setPort_spans (s : State) (v : Port) : (s.setPort v).spans = s.spans := rfl
@[simp] theorem State.setPort_hunt (s : State) (v : Port) : (s.setPort v).hunt = s.hunt := rfl
@[simp] theorem State.setPort_offers (s : State) (v : Port) : (s.setPort v).offers = s.offers := rfl
@[simp] theorem State.setPort_bus (s : State) (v : Port) : (s.setPort v).bus = s.bus := rfl
@[simp] theorem State.setPort_reports (s : State) (v : Port) : (s.setPort v).reports = s.reports := rfl
@[simp] theorem State.setPort_port (s : State) (v : Port) : (s.setPort v).port = v := rfl
@[simp] theorem State.setPort_events (s : State) (v : Port) : (s.setPort v).events = s.events := rfl

@[simp] theorem State.setEvents_pending (s : State) (v : Events) : (s.setEvents v).pending = s.pending := rfl
@[simp] theorem State.setEvents_inReset (s : State) (v : Events) : (s.setEvents v).inReset = s.inReset := rfl
@[simp] theorem State.setEvents_partPhase (s : State) (v : Events) : (s.setEvents v).partPhase = s.partPhase := rfl
@[simp] theorem State.setEvents_tick (s : State) (v : Events) : (s.setEvents v).tick = s.tick := rfl
@[simp] theorem State.setEvents_station (s : State) (v : Events) : (s.setEvents v).station = s.station := rfl
@[simp] theorem State.setEvents_settings (s : State) (v : Events) : (s.setEvents v).settings = s.settings := rfl
@[simp] theorem State.setEvents_highway (s : State) (v : Events) : (s.setEvents v).highway = s.highway := rfl
@[simp] theorem State.setEvents_circuits (s : State) (v : Events) : (s.setEvents v).circuits = s.circuits := rfl
@[simp] theorem State.setEvents_restarting (s : State) (v : Events) : (s.setEvents v).restarting = s.restarting := rfl
@[simp] theorem State.setEvents_spans (s : State) (v : Events) : (s.setEvents v).spans = s.spans := rfl
@[simp] theorem State.setEvents_hunt (s : State) (v : Events) : (s.setEvents v).hunt = s.hunt := rfl
@[simp] theorem State.setEvents_offers (s : State) (v : Events) : (s.setEvents v).offers = s.offers := rfl
@[simp] theorem State.setEvents_bus (s : State) (v : Events) : (s.setEvents v).bus = s.bus := rfl
@[simp] theorem State.setEvents_reports (s : State) (v : Events) : (s.setEvents v).reports = s.reports := rfl
@[simp] theorem State.setEvents_port (s : State) (v : Events) : (s.setEvents v).port = s.port := rfl
@[simp] theorem State.setEvents_events (s : State) (v : Events) : (s.setEvents v).events = v := rfl

end Sys2Proof.Machine
end

