-- ==== Sys2Proof/Laws/Frames.lean ====
section
/-! SUPPORT. What each shared operation leaves unchanged: one theorem per operation, every unchanged field of the state.
Statements about meanings cite these instead of unfolding the operations. -/

namespace Sys2Proof.Machine

variable (s : State)

/-- `writeCircuit` changes a circuit record alone. -/
@[simp] theorem State.writeCircuit_frame (slot : Slot) (c : Circuit) :
    (s.writeCircuit slot c).pending = s.pending ∧ (s.writeCircuit slot c).inReset = s.inReset ∧
    (s.writeCircuit slot c).partPhase = s.partPhase ∧ (s.writeCircuit slot c).tick = s.tick ∧
    (s.writeCircuit slot c).station = s.station ∧ (s.writeCircuit slot c).settings = s.settings ∧
    (s.writeCircuit slot c).highway = s.highway ∧ (s.writeCircuit slot c).restarting = s.restarting ∧
    (s.writeCircuit slot c).spans = s.spans ∧ (s.writeCircuit slot c).hunt = s.hunt ∧
    (s.writeCircuit slot c).offers = s.offers ∧ (s.writeCircuit slot c).bus = s.bus ∧
    (s.writeCircuit slot c).reports = s.reports ∧ (s.writeCircuit slot c).port = s.port ∧
    (s.writeCircuit slot c).events = s.events := by
  unfold State.writeCircuit
  refine ⟨?_, ?_, ?_, ?_, ?_, ?_, ?_, ?_, ?_, ?_, ?_, ?_, ?_, ?_, ?_⟩ <;> simp

/-- `putCircuit` changes a circuit record alone. -/
@[simp] theorem State.putCircuit_frame (slot : Slot) (c : Circuit) :
    (s.putCircuit slot c).pending = s.pending ∧ (s.putCircuit slot c).inReset = s.inReset ∧
    (s.putCircuit slot c).partPhase = s.partPhase ∧ (s.putCircuit slot c).tick = s.tick ∧
    (s.putCircuit slot c).station = s.station ∧ (s.putCircuit slot c).settings = s.settings ∧
    (s.putCircuit slot c).highway = s.highway ∧ (s.putCircuit slot c).restarting = s.restarting ∧
    (s.putCircuit slot c).spans = s.spans ∧ (s.putCircuit slot c).hunt = s.hunt ∧
    (s.putCircuit slot c).offers = s.offers ∧ (s.putCircuit slot c).bus = s.bus ∧
    (s.putCircuit slot c).reports = s.reports ∧ (s.putCircuit slot c).port = s.port ∧
    (s.putCircuit slot c).events = s.events := by
  unfold State.putCircuit
  refine ⟨?_, ?_, ?_, ?_, ?_, ?_, ?_, ?_, ?_, ?_, ?_, ?_, ?_, ?_, ?_⟩ <;> simp

/-- `putSpan` changes a span record alone. -/
@[simp] theorem State.putSpan_frame (sp : SpanIx) (g : Span) :
    (s.putSpan sp g).pending = s.pending ∧ (s.putSpan sp g).inReset = s.inReset ∧
    (s.putSpan sp g).partPhase = s.partPhase ∧ (s.putSpan sp g).tick = s.tick ∧ (s.putSpan sp g).station = s.station ∧
    (s.putSpan sp g).settings = s.settings ∧ (s.putSpan sp g).highway = s.highway ∧
    (s.putSpan sp g).circuits = s.circuits ∧ (s.putSpan sp g).restarting = s.restarting ∧
    (s.putSpan sp g).hunt = s.hunt ∧ (s.putSpan sp g).offers = s.offers ∧ (s.putSpan sp g).bus = s.bus ∧
    (s.putSpan sp g).reports = s.reports ∧ (s.putSpan sp g).port = s.port ∧ (s.putSpan sp g).events = s.events := by
  unfold State.putSpan
  refine ⟨?_, ?_, ?_, ?_, ?_, ?_, ?_, ?_, ?_, ?_, ?_, ?_, ?_, ?_, ?_⟩ <;> simp

/-- `setReportQueue` changes the report queue alone. -/
@[simp] theorem State.setReportQueue_frame (q : List Report) :
    (s.setReportQueue q).pending = s.pending ∧ (s.setReportQueue q).inReset = s.inReset ∧
    (s.setReportQueue q).partPhase = s.partPhase ∧ (s.setReportQueue q).tick = s.tick ∧
    (s.setReportQueue q).station = s.station ∧ (s.setReportQueue q).settings = s.settings ∧
    (s.setReportQueue q).highway = s.highway ∧ (s.setReportQueue q).circuits = s.circuits ∧
    (s.setReportQueue q).restarting = s.restarting ∧ (s.setReportQueue q).spans = s.spans ∧
    (s.setReportQueue q).hunt = s.hunt ∧ (s.setReportQueue q).offers = s.offers ∧ (s.setReportQueue q).bus = s.bus ∧
    (s.setReportQueue q).port = s.port ∧ (s.setReportQueue q).events = s.events := by
  unfold State.setReportQueue
  refine ⟨?_, ?_, ?_, ?_, ?_, ?_, ?_, ?_, ?_, ?_, ?_, ?_, ?_, ?_, ?_⟩ <;> (try dsimp only) <;> simp

/-- `post` changes the report unit alone. -/
@[simp] theorem State.post_frame (d : Option Slot) (r : Report) :
    (s.post d r).pending = s.pending ∧ (s.post d r).inReset = s.inReset ∧ (s.post d r).partPhase = s.partPhase ∧
    (s.post d r).tick = s.tick ∧ (s.post d r).station = s.station ∧ (s.post d r).settings = s.settings ∧
    (s.post d r).highway = s.highway ∧ (s.post d r).circuits = s.circuits ∧ (s.post d r).restarting = s.restarting ∧
    (s.post d r).spans = s.spans ∧ (s.post d r).hunt = s.hunt ∧ (s.post d r).offers = s.offers ∧
    (s.post d r).bus = s.bus ∧ (s.post d r).port = s.port ∧ (s.post d r).events = s.events := by
  unfold State.post
  refine ⟨?_, ?_, ?_, ?_, ?_, ?_, ?_, ?_, ?_, ?_, ?_, ?_, ?_, ?_, ?_⟩ <;> (try dsimp only) <;> (repeat' split) <;> simp

/-- `postCircuit` changes the report unit alone. -/
@[simp] theorem State.postCircuit_frame (k : ReportKind) (slot : Slot) (c : Circuit) (n : Nat) :
    (s.postCircuit k slot c n).pending = s.pending ∧ (s.postCircuit k slot c n).inReset = s.inReset ∧
    (s.postCircuit k slot c n).partPhase = s.partPhase ∧ (s.postCircuit k slot c n).tick = s.tick ∧
    (s.postCircuit k slot c n).station = s.station ∧ (s.postCircuit k slot c n).settings = s.settings ∧
    (s.postCircuit k slot c n).highway = s.highway ∧ (s.postCircuit k slot c n).circuits = s.circuits ∧
    (s.postCircuit k slot c n).restarting = s.restarting ∧ (s.postCircuit k slot c n).spans = s.spans ∧
    (s.postCircuit k slot c n).hunt = s.hunt ∧ (s.postCircuit k slot c n).offers = s.offers ∧
    (s.postCircuit k slot c n).bus = s.bus ∧ (s.postCircuit k slot c n).port = s.port ∧
    (s.postCircuit k slot c n).events = s.events := by
  unfold State.postCircuit
  refine ⟨?_, ?_, ?_, ?_, ?_, ?_, ?_, ?_, ?_, ?_, ?_, ?_, ?_, ?_, ?_⟩ <;> (try dsimp only) <;> simp

/-- `postSpan` changes the report unit alone. -/
@[simp] theorem State.postSpan_frame (k : ReportKind) (sp : SpanIx) :
    (s.postSpan k sp).pending = s.pending ∧ (s.postSpan k sp).inReset = s.inReset ∧
    (s.postSpan k sp).partPhase = s.partPhase ∧ (s.postSpan k sp).tick = s.tick ∧
    (s.postSpan k sp).station = s.station ∧ (s.postSpan k sp).settings = s.settings ∧
    (s.postSpan k sp).highway = s.highway ∧ (s.postSpan k sp).circuits = s.circuits ∧
    (s.postSpan k sp).restarting = s.restarting ∧ (s.postSpan k sp).spans = s.spans ∧
    (s.postSpan k sp).hunt = s.hunt ∧ (s.postSpan k sp).offers = s.offers ∧ (s.postSpan k sp).bus = s.bus ∧
    (s.postSpan k sp).port = s.port ∧ (s.postSpan k sp).events = s.events := by
  unfold State.postSpan
  refine ⟨?_, ?_, ?_, ?_, ?_, ?_, ?_, ?_, ?_, ?_, ?_, ?_, ?_, ?_, ?_⟩ <;> (try dsimp only) <;> simp

/-- `postBus` changes the report unit alone. -/
@[simp] theorem State.postBus_frame (k : ReportKind) :
    (s.postBus k).pending = s.pending ∧ (s.postBus k).inReset = s.inReset ∧ (s.postBus k).partPhase = s.partPhase ∧
    (s.postBus k).tick = s.tick ∧ (s.postBus k).station = s.station ∧ (s.postBus k).settings = s.settings ∧
    (s.postBus k).highway = s.highway ∧ (s.postBus k).circuits = s.circuits ∧
    (s.postBus k).restarting = s.restarting ∧ (s.postBus k).spans = s.spans ∧ (s.postBus k).hunt = s.hunt ∧
    (s.postBus k).offers = s.offers ∧ (s.postBus k).bus = s.bus ∧ (s.postBus k).port = s.port ∧
    (s.postBus k).events = s.events := by
  unfold State.postBus
  refine ⟨?_, ?_, ?_, ?_, ?_, ?_, ?_, ?_, ?_, ?_, ?_, ?_, ?_, ?_, ?_⟩ <;> (try dsimp only) <;> simp

/-- `unexpected` changes the report unit alone. -/
@[simp] theorem State.unexpected_frame (slot : Slot) (a b : Code) :
    (s.unexpected slot a b).pending = s.pending ∧ (s.unexpected slot a b).inReset = s.inReset ∧
    (s.unexpected slot a b).partPhase = s.partPhase ∧ (s.unexpected slot a b).tick = s.tick ∧
    (s.unexpected slot a b).station = s.station ∧ (s.unexpected slot a b).settings = s.settings ∧
    (s.unexpected slot a b).highway = s.highway ∧ (s.unexpected slot a b).circuits = s.circuits ∧
    (s.unexpected slot a b).restarting = s.restarting ∧ (s.unexpected slot a b).spans = s.spans ∧
    (s.unexpected slot a b).hunt = s.hunt ∧ (s.unexpected slot a b).offers = s.offers ∧
    (s.unexpected slot a b).bus = s.bus ∧ (s.unexpected slot a b).port = s.port ∧
    (s.unexpected slot a b).events = s.events := by
  unfold State.unexpected
  refine ⟨?_, ?_, ?_, ?_, ?_, ?_, ?_, ?_, ?_, ?_, ?_, ?_, ?_, ?_, ?_⟩ <;> (try dsimp only) <;> simp

/-- `handOutcome` changes the hand-overs alone. -/
@[simp] theorem State.handOutcome_frame (o : FrameOutcome) :
    (s.handOutcome o).pending = s.pending ∧ (s.handOutcome o).inReset = s.inReset ∧
    (s.handOutcome o).partPhase = s.partPhase ∧ (s.handOutcome o).tick = s.tick ∧
    (s.handOutcome o).station = s.station ∧ (s.handOutcome o).settings = s.settings ∧
    (s.handOutcome o).highway = s.highway ∧ (s.handOutcome o).circuits = s.circuits ∧
    (s.handOutcome o).restarting = s.restarting ∧ (s.handOutcome o).spans = s.spans ∧
    (s.handOutcome o).hunt = s.hunt ∧ (s.handOutcome o).offers = s.offers ∧ (s.handOutcome o).bus = s.bus ∧
    (s.handOutcome o).reports = s.reports ∧ (s.handOutcome o).port = s.port := by
  unfold State.handOutcome
  refine ⟨?_, ?_, ?_, ?_, ?_, ?_, ?_, ?_, ?_, ?_, ?_, ?_, ?_, ?_, ?_⟩ <;> (try dsimp only) <;> (repeat' split) <;> simp

/-- `sendFrame` changes the bus controller and the hand-overs. -/
@[simp] theorem State.sendFrame_frame (f : Directed) :
    (s.sendFrame f).pending = s.pending ∧ (s.sendFrame f).inReset = s.inReset ∧
    (s.sendFrame f).partPhase = s.partPhase ∧ (s.sendFrame f).tick = s.tick ∧ (s.sendFrame f).station = s.station ∧
    (s.sendFrame f).settings = s.settings ∧ (s.sendFrame f).highway = s.highway ∧
    (s.sendFrame f).circuits = s.circuits ∧ (s.sendFrame f).restarting = s.restarting ∧
    (s.sendFrame f).spans = s.spans ∧ (s.sendFrame f).hunt = s.hunt ∧ (s.sendFrame f).offers = s.offers ∧
    (s.sendFrame f).reports = s.reports ∧ (s.sendFrame f).port = s.port := by
  unfold State.sendFrame
  refine ⟨?_, ?_, ?_, ?_, ?_, ?_, ?_, ?_, ?_, ?_, ?_, ?_, ?_, ?_⟩ <;> (try dsimp only) <;> (repeat' split) <;> simp

/-- `writeLevel` changes the bus controller alone. -/
@[simp] theorem State.writeLevel_frame :
    (s.writeLevel).pending = s.pending ∧ (s.writeLevel).inReset = s.inReset ∧ (s.writeLevel).partPhase = s.partPhase ∧
    (s.writeLevel).tick = s.tick ∧ (s.writeLevel).station = s.station ∧ (s.writeLevel).settings = s.settings ∧
    (s.writeLevel).highway = s.highway ∧ (s.writeLevel).circuits = s.circuits ∧
    (s.writeLevel).restarting = s.restarting ∧ (s.writeLevel).spans = s.spans ∧ (s.writeLevel).hunt = s.hunt ∧
    (s.writeLevel).offers = s.offers ∧ (s.writeLevel).reports = s.reports ∧ (s.writeLevel).port = s.port ∧
    (s.writeLevel).events = s.events := by
  unfold State.writeLevel
  refine ⟨?_, ?_, ?_, ?_, ?_, ?_, ?_, ?_, ?_, ?_, ?_, ?_, ?_, ?_, ?_⟩ <;> (try dsimp only) <;> (repeat' split) <;> simp

/-- `recount` changes the hunt unit and the LEVEL slot. -/
@[simp] theorem State.recount_frame :
    (s.recount).pending = s.pending ∧ (s.recount).inReset = s.inReset ∧ (s.recount).partPhase = s.partPhase ∧
    (s.recount).tick = s.tick ∧ (s.recount).station = s.station ∧ (s.recount).settings = s.settings ∧
    (s.recount).highway = s.highway ∧ (s.recount).circuits = s.circuits ∧ (s.recount).restarting = s.restarting ∧
    (s.recount).spans = s.spans ∧ (s.recount).offers = s.offers ∧ (s.recount).reports = s.reports ∧
    (s.recount).port = s.port ∧ (s.recount).events = s.events := by
  unfold State.recount
  refine ⟨?_, ?_, ?_, ?_, ?_, ?_, ?_, ?_, ?_, ?_, ?_, ?_, ?_, ?_⟩ <;> (try dsimp only) <;> (repeat' split) <;> simp

/-- `quiesceTest` changes the span, its report and the recount. -/
@[simp] theorem State.quiesceTest_frame (sp : SpanIx) :
    (s.quiesceTest sp).pending = s.pending ∧ (s.quiesceTest sp).inReset = s.inReset ∧
    (s.quiesceTest sp).partPhase = s.partPhase ∧ (s.quiesceTest sp).tick = s.tick ∧
    (s.quiesceTest sp).station = s.station ∧ (s.quiesceTest sp).settings = s.settings ∧
    (s.quiesceTest sp).highway = s.highway ∧ (s.quiesceTest sp).circuits = s.circuits ∧
    (s.quiesceTest sp).restarting = s.restarting ∧ (s.quiesceTest sp).offers = s.offers ∧
    (s.quiesceTest sp).port = s.port ∧ (s.quiesceTest sp).events = s.events := by
  unfold State.quiesceTest
  refine ⟨?_, ?_, ?_, ?_, ?_, ?_, ?_, ?_, ?_, ?_, ?_, ?_⟩ <;> (try dsimp only) <;> (repeat' split) <;> simp

/-- `settle` changes the recount and the completion test. -/
@[simp] theorem State.settle_frame (slot : Slot) (c : Circuit) :
    (s.settle slot c).pending = s.pending ∧ (s.settle slot c).inReset = s.inReset ∧
    (s.settle slot c).partPhase = s.partPhase ∧ (s.settle slot c).tick = s.tick ∧
    (s.settle slot c).station = s.station ∧ (s.settle slot c).settings = s.settings ∧
    (s.settle slot c).highway = s.highway ∧ (s.settle slot c).circuits = s.circuits ∧
    (s.settle slot c).restarting = s.restarting ∧ (s.settle slot c).offers = s.offers ∧
    (s.settle slot c).port = s.port ∧ (s.settle slot c).events = s.events := by
  unfold State.settle
  refine ⟨?_, ?_, ?_, ?_, ?_, ?_, ?_, ?_, ?_, ?_, ?_, ?_⟩ <;> (try dsimp only) <;> (repeat' split) <;> simp

/-- `putHuntSlot` changes a hunt slot alone. -/
@[simp] theorem State.putHuntSlot_frame (ix : HuntIx) (h : HuntSlot) :
    (s.putHuntSlot ix h).pending = s.pending ∧ (s.putHuntSlot ix h).inReset = s.inReset ∧
    (s.putHuntSlot ix h).partPhase = s.partPhase ∧ (s.putHuntSlot ix h).tick = s.tick ∧
    (s.putHuntSlot ix h).station = s.station ∧ (s.putHuntSlot ix h).settings = s.settings ∧
    (s.putHuntSlot ix h).highway = s.highway ∧ (s.putHuntSlot ix h).circuits = s.circuits ∧
    (s.putHuntSlot ix h).restarting = s.restarting ∧ (s.putHuntSlot ix h).spans = s.spans ∧
    (s.putHuntSlot ix h).offers = s.offers ∧ (s.putHuntSlot ix h).bus = s.bus ∧
    (s.putHuntSlot ix h).reports = s.reports ∧ (s.putHuntSlot ix h).port = s.port ∧
    (s.putHuntSlot ix h).events = s.events := by
  unfold State.putHuntSlot
  refine ⟨?_, ?_, ?_, ?_, ?_, ?_, ?_, ?_, ?_, ?_, ?_, ?_, ?_, ?_, ?_⟩ <;> (try dsimp only) <;> simp

/-- `endSlot` changes a hunt slot and the report unit. -/
@[simp] theorem State.endSlot_frame (ix : HuntIx) (r : Reference) (rep : Report) :
    (s.endSlot ix r rep).pending = s.pending ∧ (s.endSlot ix r rep).inReset = s.inReset ∧
    (s.endSlot ix r rep).partPhase = s.partPhase ∧ (s.endSlot ix r rep).tick = s.tick ∧
    (s.endSlot ix r rep).station = s.station ∧ (s.endSlot ix r rep).settings = s.settings ∧
    (s.endSlot ix r rep).highway = s.highway ∧ (s.endSlot ix r rep).circuits = s.circuits ∧
    (s.endSlot ix r rep).restarting = s.restarting ∧ (s.endSlot ix r rep).spans = s.spans ∧
    (s.endSlot ix r rep).offers = s.offers ∧ (s.endSlot ix r rep).bus = s.bus ∧ (s.endSlot ix r rep).port = s.port ∧
    (s.endSlot ix r rep).events = s.events := by
  unfold State.endSlot
  refine ⟨?_, ?_, ?_, ?_, ?_, ?_, ?_, ?_, ?_, ?_, ?_, ?_, ?_, ?_⟩ <;> (try dsimp only) <;> (repeat' split) <;> simp

/-- `dropBound` changes a hunt slot and the report unit. -/
@[simp] theorem State.dropBound_frame (slot : Slot) (n : Nat) :
    (s.dropBound slot n).pending = s.pending ∧ (s.dropBound slot n).inReset = s.inReset ∧
    (s.dropBound slot n).partPhase = s.partPhase ∧ (s.dropBound slot n).tick = s.tick ∧
    (s.dropBound slot n).station = s.station ∧ (s.dropBound slot n).settings = s.settings ∧
    (s.dropBound slot n).highway = s.highway ∧ (s.dropBound slot n).circuits = s.circuits ∧
    (s.dropBound slot n).restarting = s.restarting ∧ (s.dropBound slot n).spans = s.spans ∧
    (s.dropBound slot n).offers = s.offers ∧ (s.dropBound slot n).bus = s.bus ∧ (s.dropBound slot n).port = s.port ∧
    (s.dropBound slot n).events = s.events := by
  unfold State.dropBound
  refine ⟨?_, ?_, ?_, ?_, ?_, ?_, ?_, ?_, ?_, ?_, ?_, ?_, ?_, ?_⟩ <;> (try dsimp only) <;> (repeat' split) <;> simp

/-- `clearForward` changes the circuit, a hunt slot and the report unit. -/
@[simp] theorem State.clearForward_frame (slot : Slot) (n : Nat) :
    (s.clearForward slot n).pending = s.pending ∧ (s.clearForward slot n).inReset = s.inReset ∧
    (s.clearForward slot n).partPhase = s.partPhase ∧ (s.clearForward slot n).tick = s.tick ∧
    (s.clearForward slot n).station = s.station ∧ (s.clearForward slot n).settings = s.settings ∧
    (s.clearForward slot n).highway = s.highway ∧ (s.clearForward slot n).restarting = s.restarting ∧
    (s.clearForward slot n).spans = s.spans ∧ (s.clearForward slot n).offers = s.offers ∧
    (s.clearForward slot n).bus = s.bus ∧ (s.clearForward slot n).port = s.port ∧
    (s.clearForward slot n).events = s.events := by
  unfold State.clearForward
  refine ⟨?_, ?_, ?_, ?_, ?_, ?_, ?_, ?_, ?_, ?_, ?_, ?_, ?_⟩ <;> simp

/-- `failForward` changes the circuit, a hunt slot and the report unit. -/
@[simp] theorem State.failForward_frame (slot : Slot) (k : ReportKind) (n : Nat) :
    (s.failForward slot k n).pending = s.pending ∧ (s.failForward slot k n).inReset = s.inReset ∧
    (s.failForward slot k n).partPhase = s.partPhase ∧ (s.failForward slot k n).tick = s.tick ∧
    (s.failForward slot k n).station = s.station ∧ (s.failForward slot k n).settings = s.settings ∧
    (s.failForward slot k n).highway = s.highway ∧ (s.failForward slot k n).restarting = s.restarting ∧
    (s.failForward slot k n).spans = s.spans ∧ (s.failForward slot k n).offers = s.offers ∧
    (s.failForward slot k n).bus = s.bus ∧ (s.failForward slot k n).port = s.port ∧
    (s.failForward slot k n).events = s.events := by
  unfold State.failForward
  refine ⟨?_, ?_, ?_, ?_, ?_, ?_, ?_, ?_, ?_, ?_, ?_, ?_, ?_⟩ <;> simp

/-- `handReturn` changes a hunt slot and the hand-overs. -/
@[simp] theorem State.handReturn_frame (slot : Slot) (why : ReturnReason) (q : Option Request) :
    (s.handReturn slot why q).pending = s.pending ∧ (s.handReturn slot why q).inReset = s.inReset ∧
    (s.handReturn slot why q).partPhase = s.partPhase ∧ (s.handReturn slot why q).tick = s.tick ∧
    (s.handReturn slot why q).station = s.station ∧ (s.handReturn slot why q).settings = s.settings ∧
    (s.handReturn slot why q).highway = s.highway ∧ (s.handReturn slot why q).circuits = s.circuits ∧
    (s.handReturn slot why q).restarting = s.restarting ∧ (s.handReturn slot why q).spans = s.spans ∧
    (s.handReturn slot why q).offers = s.offers ∧ (s.handReturn slot why q).bus = s.bus ∧
    (s.handReturn slot why q).reports = s.reports ∧ (s.handReturn slot why q).port = s.port := by
  unfold State.handReturn
  refine ⟨?_, ?_, ?_, ?_, ?_, ?_, ?_, ?_, ?_, ?_, ?_, ?_, ?_, ?_⟩ <;> (try dsimp only) <;> (repeat' split) <;> simp

/-- `reply` changes the order port alone. -/
@[simp] theorem State.reply_frame (st : Status) (b : ReplyBody) :
    (s.reply st b).pending = s.pending ∧ (s.reply st b).inReset = s.inReset ∧ (s.reply st b).partPhase = s.partPhase ∧
    (s.reply st b).tick = s.tick ∧ (s.reply st b).station = s.station ∧ (s.reply st b).settings = s.settings ∧
    (s.reply st b).highway = s.highway ∧ (s.reply st b).circuits = s.circuits ∧
    (s.reply st b).restarting = s.restarting ∧ (s.reply st b).spans = s.spans ∧ (s.reply st b).hunt = s.hunt ∧
    (s.reply st b).offers = s.offers ∧ (s.reply st b).bus = s.bus ∧ (s.reply st b).reports = s.reports ∧
    (s.reply st b).events = s.events := by
  unfold State.reply
  refine ⟨?_, ?_, ?_, ?_, ?_, ?_, ?_, ?_, ?_, ?_, ?_, ?_, ?_, ?_, ?_⟩ <;> simp

/-- `replyPhase` changes the order port alone. -/
@[simp] theorem State.replyPhase_frame (st : Status) (slot : Slot) :
    (s.replyPhase st slot).pending = s.pending ∧ (s.replyPhase st slot).inReset = s.inReset ∧
    (s.replyPhase st slot).partPhase = s.partPhase ∧ (s.replyPhase st slot).tick = s.tick ∧
    (s.replyPhase st slot).station = s.station ∧ (s.replyPhase st slot).settings = s.settings ∧
    (s.replyPhase st slot).highway = s.highway ∧ (s.replyPhase st slot).circuits = s.circuits ∧
    (s.replyPhase st slot).restarting = s.restarting ∧ (s.replyPhase st slot).spans = s.spans ∧
    (s.replyPhase st slot).hunt = s.hunt ∧ (s.replyPhase st slot).offers = s.offers ∧
    (s.replyPhase st slot).bus = s.bus ∧ (s.replyPhase st slot).reports = s.reports ∧
    (s.replyPhase st slot).events = s.events := by
  unfold State.replyPhase
  refine ⟨?_, ?_, ?_, ?_, ?_, ?_, ?_, ?_, ?_, ?_, ?_, ?_, ?_, ?_, ?_⟩ <;> (try dsimp only) <;> simp

/-- `refuse` changes the order port alone. -/
@[simp] theorem State.refuse_frame (st : Status) :
    (s.refuse st).pending = s.pending ∧ (s.refuse st).inReset = s.inReset ∧ (s.refuse st).partPhase = s.partPhase ∧
    (s.refuse st).tick = s.tick ∧ (s.refuse st).station = s.station ∧ (s.refuse st).settings = s.settings ∧
    (s.refuse st).highway = s.highway ∧ (s.refuse st).circuits = s.circuits ∧
    (s.refuse st).restarting = s.restarting ∧ (s.refuse st).spans = s.spans ∧ (s.refuse st).hunt = s.hunt ∧
    (s.refuse st).offers = s.offers ∧ (s.refuse st).bus = s.bus ∧ (s.refuse st).reports = s.reports ∧
    (s.refuse st).events = s.events := by
  unfold State.refuse
  refine ⟨?_, ?_, ?_, ?_, ?_, ?_, ?_, ?_, ?_, ?_, ?_, ?_, ?_, ?_, ?_⟩ <;> simp

/-- `deliver` changes the hand-overs alone. -/
@[simp] theorem State.deliver_frame (f : Slot → Option Code) (g : SpanIx → Bool) :
    (s.deliver f g).pending = s.pending ∧ (s.deliver f g).inReset = s.inReset ∧
    (s.deliver f g).partPhase = s.partPhase ∧ (s.deliver f g).tick = s.tick ∧ (s.deliver f g).station = s.station ∧
    (s.deliver f g).settings = s.settings ∧ (s.deliver f g).highway = s.highway ∧
    (s.deliver f g).circuits = s.circuits ∧ (s.deliver f g).restarting = s.restarting ∧
    (s.deliver f g).spans = s.spans ∧ (s.deliver f g).hunt = s.hunt ∧ (s.deliver f g).offers = s.offers ∧
    (s.deliver f g).bus = s.bus ∧ (s.deliver f g).reports = s.reports ∧ (s.deliver f g).port = s.port := by
  unfold State.deliver
  refine ⟨?_, ?_, ?_, ?_, ?_, ?_, ?_, ?_, ?_, ?_, ?_, ?_, ?_, ?_, ?_⟩ <;> (try dsimp only) <;> simp

/-- `substitute` changes the hand-overs alone. -/
@[simp] theorem State.substitute_frame :
    (s.substitute).pending = s.pending ∧ (s.substitute).inReset = s.inReset ∧ (s.substitute).partPhase = s.partPhase ∧
    (s.substitute).tick = s.tick ∧ (s.substitute).station = s.station ∧ (s.substitute).settings = s.settings ∧
    (s.substitute).highway = s.highway ∧ (s.substitute).circuits = s.circuits ∧
    (s.substitute).restarting = s.restarting ∧ (s.substitute).spans = s.spans ∧ (s.substitute).hunt = s.hunt ∧
    (s.substitute).offers = s.offers ∧ (s.substitute).bus = s.bus ∧ (s.substitute).reports = s.reports ∧
    (s.substitute).port = s.port := by
  unfold State.substitute
  refine ⟨?_, ?_, ?_, ?_, ?_, ?_, ?_, ?_, ?_, ?_, ?_, ?_, ?_, ?_, ?_⟩ <;> (repeat' split) <;> simp

/-- `addEntry` changes the offer unit alone. -/
@[simp] theorem State.addEntry_frame (entry : OfferEntry) :
    (s.addEntry entry).pending = s.pending ∧ (s.addEntry entry).inReset = s.inReset ∧
    (s.addEntry entry).partPhase = s.partPhase ∧ (s.addEntry entry).tick = s.tick ∧
    (s.addEntry entry).station = s.station ∧ (s.addEntry entry).settings = s.settings ∧
    (s.addEntry entry).highway = s.highway ∧ (s.addEntry entry).circuits = s.circuits ∧
    (s.addEntry entry).restarting = s.restarting ∧ (s.addEntry entry).spans = s.spans ∧
    (s.addEntry entry).hunt = s.hunt ∧ (s.addEntry entry).bus = s.bus ∧ (s.addEntry entry).reports = s.reports ∧
    (s.addEntry entry).port = s.port ∧ (s.addEntry entry).events = s.events := by
  unfold State.addEntry
  refine ⟨?_, ?_, ?_, ?_, ?_, ?_, ?_, ?_, ?_, ?_, ?_, ?_, ?_, ?_, ?_⟩ <;> simp

/-- `updateEntry` changes the offer unit alone. -/
@[simp] theorem State.updateEntry_frame (entry : OfferEntry) :
    (s.updateEntry entry).pending = s.pending ∧ (s.updateEntry entry).inReset = s.inReset ∧
    (s.updateEntry entry).partPhase = s.partPhase ∧ (s.updateEntry entry).tick = s.tick ∧
    (s.updateEntry entry).station = s.station ∧ (s.updateEntry entry).settings = s.settings ∧
    (s.updateEntry entry).highway = s.highway ∧ (s.updateEntry entry).circuits = s.circuits ∧
    (s.updateEntry entry).restarting = s.restarting ∧ (s.updateEntry entry).spans = s.spans ∧
    (s.updateEntry entry).hunt = s.hunt ∧ (s.updateEntry entry).bus = s.bus ∧
    (s.updateEntry entry).reports = s.reports ∧ (s.updateEntry entry).port = s.port ∧
    (s.updateEntry entry).events = s.events := by
  unfold State.updateEntry
  refine ⟨?_, ?_, ?_, ?_, ?_, ?_, ?_, ?_, ?_, ?_, ?_, ?_, ?_, ?_, ?_⟩ <;> (try dsimp only) <;> simp

/-- `freeEntry` changes the offer table and the send queue. -/
@[simp] theorem State.freeEntry_frame (entry : OfferEntry) :
    (s.freeEntry entry).pending = s.pending ∧ (s.freeEntry entry).inReset = s.inReset ∧
    (s.freeEntry entry).partPhase = s.partPhase ∧ (s.freeEntry entry).tick = s.tick ∧
    (s.freeEntry entry).station = s.station ∧ (s.freeEntry entry).settings = s.settings ∧
    (s.freeEntry entry).highway = s.highway ∧ (s.freeEntry entry).circuits = s.circuits ∧
    (s.freeEntry entry).restarting = s.restarting ∧ (s.freeEntry entry).spans = s.spans ∧
    (s.freeEntry entry).hunt = s.hunt ∧ (s.freeEntry entry).reports = s.reports ∧ (s.freeEntry entry).port = s.port ∧
    (s.freeEntry entry).events = s.events := by
  unfold State.freeEntry
  refine ⟨?_, ?_, ?_, ?_, ?_, ?_, ?_, ?_, ?_, ?_, ?_, ?_, ?_, ?_⟩ <;> (try dsimp only) <;> (repeat' split) <;> simp

/-- `endEntry` changes the slot, its report, the offer table and the send queue. -/
@[simp] theorem State.endEntry_frame (entry : OfferEntry) (rep : Report) :
    (s.endEntry entry rep).pending = s.pending ∧ (s.endEntry entry rep).inReset = s.inReset ∧
    (s.endEntry entry rep).partPhase = s.partPhase ∧ (s.endEntry entry rep).tick = s.tick ∧
    (s.endEntry entry rep).station = s.station ∧ (s.endEntry entry rep).settings = s.settings ∧
    (s.endEntry entry rep).highway = s.highway ∧ (s.endEntry entry rep).circuits = s.circuits ∧
    (s.endEntry entry rep).restarting = s.restarting ∧ (s.endEntry entry rep).spans = s.spans ∧
    (s.endEntry entry rep).port = s.port ∧ (s.endEntry entry rep).events = s.events := by
  unfold State.endEntry
  refine ⟨?_, ?_, ?_, ?_, ?_, ?_, ?_, ?_, ?_, ?_, ?_, ?_⟩ <;> simp

/-- `setDispatch` changes the hunt unit alone. -/
@[simp] theorem State.setDispatch_frame (d : Option Dispatch) :
    (s.setDispatch d).pending = s.pending ∧ (s.setDispatch d).inReset = s.inReset ∧
    (s.setDispatch d).partPhase = s.partPhase ∧ (s.setDispatch d).tick = s.tick ∧
    (s.setDispatch d).station = s.station ∧ (s.setDispatch d).settings = s.settings ∧
    (s.setDispatch d).highway = s.highway ∧ (s.setDispatch d).circuits = s.circuits ∧
    (s.setDispatch d).restarting = s.restarting ∧ (s.setDispatch d).spans = s.spans ∧
    (s.setDispatch d).offers = s.offers ∧ (s.setDispatch d).bus = s.bus ∧ (s.setDispatch d).reports = s.reports ∧
    (s.setDispatch d).port = s.port ∧ (s.setDispatch d).events = s.events := by
  unfold State.setDispatch
  refine ⟨?_, ?_, ?_, ?_, ?_, ?_, ?_, ?_, ?_, ?_, ?_, ?_, ?_, ?_, ?_⟩ <;> (try dsimp only) <;> simp

/-- `rewrite` changes circuit records alone. -/
@[simp] theorem State.rewrite_frame (sel : Slot → Bool) (f : Circuit → Circuit) :
    (s.rewrite sel f).pending = s.pending ∧ (s.rewrite sel f).inReset = s.inReset ∧
    (s.rewrite sel f).partPhase = s.partPhase ∧ (s.rewrite sel f).tick = s.tick ∧
    (s.rewrite sel f).station = s.station ∧ (s.rewrite sel f).settings = s.settings ∧
    (s.rewrite sel f).highway = s.highway ∧ (s.rewrite sel f).restarting = s.restarting ∧
    (s.rewrite sel f).spans = s.spans ∧ (s.rewrite sel f).hunt = s.hunt ∧ (s.rewrite sel f).offers = s.offers ∧
    (s.rewrite sel f).bus = s.bus ∧ (s.rewrite sel f).reports = s.reports ∧ (s.rewrite sel f).port = s.port ∧
    (s.rewrite sel f).events = s.events := by
  unfold State.rewrite
  refine ⟨?_, ?_, ?_, ?_, ?_, ?_, ?_, ?_, ?_, ?_, ?_, ?_, ?_, ?_, ?_⟩ <;> (try dsimp only) <;> simp

/-- `handActions` changes the hand-overs alone. -/
@[simp] theorem State.handActions_frame (sp : SpanIx) (k : ActionKind) :
    (s.handActions sp k).pending = s.pending ∧ (s.handActions sp k).inReset = s.inReset ∧
    (s.handActions sp k).partPhase = s.partPhase ∧ (s.handActions sp k).tick = s.tick ∧
    (s.handActions sp k).station = s.station ∧ (s.handActions sp k).settings = s.settings ∧
    (s.handActions sp k).highway = s.highway ∧ (s.handActions sp k).circuits = s.circuits ∧
    (s.handActions sp k).restarting = s.restarting ∧ (s.handActions sp k).spans = s.spans ∧
    (s.handActions sp k).hunt = s.hunt ∧ (s.handActions sp k).offers = s.offers ∧ (s.handActions sp k).bus = s.bus ∧
    (s.handActions sp k).reports = s.reports ∧ (s.handActions sp k).port = s.port := by
  unfold State.handActions
  refine ⟨?_, ?_, ?_, ?_, ?_, ?_, ?_, ?_, ?_, ?_, ?_, ?_, ?_, ?_, ?_⟩ <;> (try dsimp only) <;> simp

/-- `actionTaken` changes the hand-overs alone. -/
@[simp] theorem State.actionTaken_frame (slot : Slot) :
    (s.actionTaken slot).pending = s.pending ∧ (s.actionTaken slot).inReset = s.inReset ∧
    (s.actionTaken slot).partPhase = s.partPhase ∧ (s.actionTaken slot).tick = s.tick ∧
    (s.actionTaken slot).station = s.station ∧ (s.actionTaken slot).settings = s.settings ∧
    (s.actionTaken slot).highway = s.highway ∧ (s.actionTaken slot).circuits = s.circuits ∧
    (s.actionTaken slot).restarting = s.restarting ∧ (s.actionTaken slot).spans = s.spans ∧
    (s.actionTaken slot).hunt = s.hunt ∧ (s.actionTaken slot).offers = s.offers ∧ (s.actionTaken slot).bus = s.bus ∧
    (s.actionTaken slot).reports = s.reports ∧ (s.actionTaken slot).port = s.port := by
  unfold State.actionTaken
  refine ⟨?_, ?_, ?_, ?_, ?_, ?_, ?_, ?_, ?_, ?_, ?_, ?_, ?_, ?_, ?_⟩ <;> (try dsimp only) <;> simp

/-- `passSilence` changes the highway interface and the hand-overs. -/
@[simp] theorem State.passSilence_frame (n : Nat) :
    (s.passSilence n).pending = s.pending ∧ (s.passSilence n).inReset = s.inReset ∧
    (s.passSilence n).partPhase = s.partPhase ∧ (s.passSilence n).tick = s.tick ∧
    (s.passSilence n).station = s.station ∧ (s.passSilence n).settings = s.settings ∧
    (s.passSilence n).circuits = s.circuits ∧ (s.passSilence n).restarting = s.restarting ∧
    (s.passSilence n).spans = s.spans ∧ (s.passSilence n).hunt = s.hunt ∧ (s.passSilence n).offers = s.offers ∧
    (s.passSilence n).bus = s.bus ∧ (s.passSilence n).reports = s.reports ∧ (s.passSilence n).port = s.port := by
  unfold State.passSilence
  refine ⟨?_, ?_, ?_, ?_, ?_, ?_, ?_, ?_, ?_, ?_, ?_, ?_, ?_, ?_⟩ <;> (try dsimp only) <;> (repeat' split) <;> simp

/-- `stuckTest` changes the bus controller and the report unit. -/
@[simp] theorem State.stuckTest_frame :
    (s.stuckTest).pending = s.pending ∧ (s.stuckTest).inReset = s.inReset ∧ (s.stuckTest).partPhase = s.partPhase ∧
    (s.stuckTest).tick = s.tick ∧ (s.stuckTest).station = s.station ∧ (s.stuckTest).settings = s.settings ∧
    (s.stuckTest).highway = s.highway ∧ (s.stuckTest).circuits = s.circuits ∧
    (s.stuckTest).restarting = s.restarting ∧ (s.stuckTest).spans = s.spans ∧ (s.stuckTest).hunt = s.hunt ∧
    (s.stuckTest).offers = s.offers ∧ (s.stuckTest).port = s.port ∧ (s.stuckTest).events = s.events := by
  unfold State.stuckTest
  refine ⟨?_, ?_, ?_, ?_, ?_, ?_, ?_, ?_, ?_, ?_, ?_, ?_, ?_, ?_⟩ <;> (try dsimp only) <;> (repeat' split) <;> simp

/-- `recoveredTest` changes the bus controller and the report unit. -/
@[simp] theorem State.recoveredTest_frame :
    (s.recoveredTest).pending = s.pending ∧ (s.recoveredTest).inReset = s.inReset ∧
    (s.recoveredTest).partPhase = s.partPhase ∧ (s.recoveredTest).tick = s.tick ∧
    (s.recoveredTest).station = s.station ∧ (s.recoveredTest).settings = s.settings ∧
    (s.recoveredTest).highway = s.highway ∧ (s.recoveredTest).circuits = s.circuits ∧
    (s.recoveredTest).restarting = s.restarting ∧ (s.recoveredTest).spans = s.spans ∧
    (s.recoveredTest).hunt = s.hunt ∧ (s.recoveredTest).offers = s.offers ∧ (s.recoveredTest).port = s.port ∧
    (s.recoveredTest).events = s.events := by
  unfold State.recoveredTest
  refine ⟨?_, ?_, ?_, ?_, ?_, ?_, ?_, ?_, ?_, ?_, ?_, ?_, ?_, ?_⟩ <;> (try dsimp only) <;> (repeat' split) <;> simp

/-- `putView` changes the bus controller alone. -/
@[simp] theorem State.putView_frame (st : Station) (v : ViewRecord) :
    (s.putView st v).pending = s.pending ∧ (s.putView st v).inReset = s.inReset ∧
    (s.putView st v).partPhase = s.partPhase ∧ (s.putView st v).tick = s.tick ∧ (s.putView st v).station = s.station ∧
    (s.putView st v).settings = s.settings ∧ (s.putView st v).highway = s.highway ∧
    (s.putView st v).circuits = s.circuits ∧ (s.putView st v).restarting = s.restarting ∧
    (s.putView st v).spans = s.spans ∧ (s.putView st v).hunt = s.hunt ∧ (s.putView st v).offers = s.offers ∧
    (s.putView st v).reports = s.reports ∧ (s.putView st v).port = s.port ∧ (s.putView st v).events = s.events := by
  unfold State.putView
  refine ⟨?_, ?_, ?_, ?_, ?_, ?_, ?_, ?_, ?_, ?_, ?_, ?_, ?_, ?_, ?_⟩ <;> (try dsimp only) <;> simp

/-- `postAbsent` changes the report unit alone. -/
@[simp] theorem State.postAbsent_frame (st : Station) (n : Nat) :
    (s.postAbsent st n).pending = s.pending ∧ (s.postAbsent st n).inReset = s.inReset ∧
    (s.postAbsent st n).partPhase = s.partPhase ∧ (s.postAbsent st n).tick = s.tick ∧
    (s.postAbsent st n).station = s.station ∧ (s.postAbsent st n).settings = s.settings ∧
    (s.postAbsent st n).highway = s.highway ∧ (s.postAbsent st n).circuits = s.circuits ∧
    (s.postAbsent st n).restarting = s.restarting ∧ (s.postAbsent st n).spans = s.spans ∧
    (s.postAbsent st n).hunt = s.hunt ∧ (s.postAbsent st n).offers = s.offers ∧ (s.postAbsent st n).bus = s.bus ∧
    (s.postAbsent st n).port = s.port ∧ (s.postAbsent st n).events = s.events := by
  unfold State.postAbsent
  refine ⟨?_, ?_, ?_, ?_, ?_, ?_, ?_, ?_, ?_, ?_, ?_, ?_, ?_, ?_, ?_⟩ <;> (try dsimp only) <;> simp

/-- `takeLevel` changes the bus controller and the report unit. -/
@[simp] theorem State.takeLevel_frame (st : Station) (f : LevelFrame) :
    (s.takeLevel st f).pending = s.pending ∧ (s.takeLevel st f).inReset = s.inReset ∧
    (s.takeLevel st f).partPhase = s.partPhase ∧ (s.takeLevel st f).tick = s.tick ∧
    (s.takeLevel st f).station = s.station ∧ (s.takeLevel st f).settings = s.settings ∧
    (s.takeLevel st f).highway = s.highway ∧ (s.takeLevel st f).circuits = s.circuits ∧
    (s.takeLevel st f).restarting = s.restarting ∧ (s.takeLevel st f).spans = s.spans ∧
    (s.takeLevel st f).hunt = s.hunt ∧ (s.takeLevel st f).offers = s.offers ∧ (s.takeLevel st f).port = s.port ∧
    (s.takeLevel st f).events = s.events := by
  unfold State.takeLevel
  refine ⟨?_, ?_, ?_, ?_, ?_, ?_, ?_, ?_, ?_, ?_, ?_, ?_, ?_, ?_⟩ <;> (try dsimp only) <;> (repeat' split) <;> simp

/-- `markAbsent` changes the bus controller and the report unit. -/
@[simp] theorem State.markAbsent_frame (st : Station) :
    (s.markAbsent st).pending = s.pending ∧ (s.markAbsent st).inReset = s.inReset ∧
    (s.markAbsent st).partPhase = s.partPhase ∧ (s.markAbsent st).tick = s.tick ∧
    (s.markAbsent st).station = s.station ∧ (s.markAbsent st).settings = s.settings ∧
    (s.markAbsent st).highway = s.highway ∧ (s.markAbsent st).circuits = s.circuits ∧
    (s.markAbsent st).restarting = s.restarting ∧ (s.markAbsent st).spans = s.spans ∧
    (s.markAbsent st).hunt = s.hunt ∧ (s.markAbsent st).offers = s.offers ∧ (s.markAbsent st).port = s.port ∧
    (s.markAbsent st).events = s.events := by
  unfold State.markAbsent
  refine ⟨?_, ?_, ?_, ?_, ?_, ?_, ?_, ?_, ?_, ?_, ?_, ?_, ?_, ?_⟩ <;> (try dsimp only) <;> (repeat' split) <;> simp

/-- `ageRecord` changes the bus controller and the report unit. -/
@[simp] theorem State.ageRecord_frame (st : Station) :
    (s.ageRecord st).pending = s.pending ∧ (s.ageRecord st).inReset = s.inReset ∧
    (s.ageRecord st).partPhase = s.partPhase ∧ (s.ageRecord st).tick = s.tick ∧ (s.ageRecord st).station = s.station ∧
    (s.ageRecord st).settings = s.settings ∧ (s.ageRecord st).highway = s.highway ∧
    (s.ageRecord st).circuits = s.circuits ∧ (s.ageRecord st).restarting = s.restarting ∧
    (s.ageRecord st).spans = s.spans ∧ (s.ageRecord st).hunt = s.hunt ∧ (s.ageRecord st).offers = s.offers ∧
    (s.ageRecord st).port = s.port ∧ (s.ageRecord st).events = s.events := by
  unfold State.ageRecord
  refine ⟨?_, ?_, ?_, ?_, ?_, ?_, ?_, ?_, ?_, ?_, ?_, ?_, ?_, ?_⟩ <;> (repeat' split) <;> simp

/-- `attemptFailed` changes the bus controller, the hand-overs and the report unit. -/
@[simp] theorem State.attemptFailed_frame :
    (s.attemptFailed).pending = s.pending ∧ (s.attemptFailed).inReset = s.inReset ∧
    (s.attemptFailed).partPhase = s.partPhase ∧ (s.attemptFailed).tick = s.tick ∧
    (s.attemptFailed).station = s.station ∧ (s.attemptFailed).settings = s.settings ∧
    (s.attemptFailed).highway = s.highway ∧ (s.attemptFailed).circuits = s.circuits ∧
    (s.attemptFailed).restarting = s.restarting ∧ (s.attemptFailed).spans = s.spans ∧
    (s.attemptFailed).hunt = s.hunt ∧ (s.attemptFailed).offers = s.offers ∧ (s.attemptFailed).port = s.port := by
  unfold State.attemptFailed
  refine ⟨?_, ?_, ?_, ?_, ?_, ?_, ?_, ?_, ?_, ?_, ?_, ?_, ?_⟩ <;> (try dsimp only) <;> (repeat' split) <;> simp

/-- `attemptSucceeded` changes the bus controller and the hand-overs. -/
@[simp] theorem State.attemptSucceeded_frame :
    (s.attemptSucceeded).pending = s.pending ∧ (s.attemptSucceeded).inReset = s.inReset ∧
    (s.attemptSucceeded).partPhase = s.partPhase ∧ (s.attemptSucceeded).tick = s.tick ∧
    (s.attemptSucceeded).station = s.station ∧ (s.attemptSucceeded).settings = s.settings ∧
    (s.attemptSucceeded).highway = s.highway ∧ (s.attemptSucceeded).circuits = s.circuits ∧
    (s.attemptSucceeded).restarting = s.restarting ∧ (s.attemptSucceeded).spans = s.spans ∧
    (s.attemptSucceeded).hunt = s.hunt ∧ (s.attemptSucceeded).offers = s.offers ∧
    (s.attemptSucceeded).reports = s.reports ∧ (s.attemptSucceeded).port = s.port := by
  unfold State.attemptSucceeded
  refine ⟨?_, ?_, ?_, ?_, ?_, ?_, ?_, ?_, ?_, ?_, ?_, ?_, ?_, ?_⟩ <;> (try dsimp only) <;> (repeat' split) <;> simp

/-- `countError` changes the bus controller alone. -/
@[simp] theorem State.countError_frame :
    (s.countError).pending = s.pending ∧ (s.countError).inReset = s.inReset ∧ (s.countError).partPhase = s.partPhase ∧
    (s.countError).tick = s.tick ∧ (s.countError).station = s.station ∧ (s.countError).settings = s.settings ∧
    (s.countError).highway = s.highway ∧ (s.countError).circuits = s.circuits ∧
    (s.countError).restarting = s.restarting ∧ (s.countError).spans = s.spans ∧ (s.countError).hunt = s.hunt ∧
    (s.countError).offers = s.offers ∧ (s.countError).reports = s.reports ∧ (s.countError).port = s.port ∧
    (s.countError).events = s.events := by
  unfold State.countError
  refine ⟨?_, ?_, ?_, ?_, ?_, ?_, ?_, ?_, ?_, ?_, ?_, ?_, ?_, ?_, ?_⟩ <;> (try dsimp only) <;> simp

/-- `acknowledge` changes the bus controller alone. -/
@[simp] theorem State.acknowledge_frame :
    (s.acknowledge).pending = s.pending ∧ (s.acknowledge).inReset = s.inReset ∧
    (s.acknowledge).partPhase = s.partPhase ∧ (s.acknowledge).tick = s.tick ∧ (s.acknowledge).station = s.station ∧
    (s.acknowledge).settings = s.settings ∧ (s.acknowledge).highway = s.highway ∧
    (s.acknowledge).circuits = s.circuits ∧ (s.acknowledge).restarting = s.restarting ∧
    (s.acknowledge).spans = s.spans ∧ (s.acknowledge).hunt = s.hunt ∧ (s.acknowledge).offers = s.offers ∧
    (s.acknowledge).reports = s.reports ∧ (s.acknowledge).port = s.port ∧ (s.acknowledge).events = s.events := by
  unfold State.acknowledge
  refine ⟨?_, ?_, ?_, ?_, ?_, ?_, ?_, ?_, ?_, ?_, ?_, ?_, ?_, ?_, ?_⟩ <;> (try dsimp only) <;> simp

/-- `passOn` changes the hand-overs alone. -/
@[simp] theorem State.passOn_frame (a : ArrivedFrame) :
    (s.passOn a).pending = s.pending ∧ (s.passOn a).inReset = s.inReset ∧ (s.passOn a).partPhase = s.partPhase ∧
    (s.passOn a).tick = s.tick ∧ (s.passOn a).station = s.station ∧ (s.passOn a).settings = s.settings ∧
    (s.passOn a).highway = s.highway ∧ (s.passOn a).circuits = s.circuits ∧ (s.passOn a).restarting = s.restarting ∧
    (s.passOn a).spans = s.spans ∧ (s.passOn a).hunt = s.hunt ∧ (s.passOn a).offers = s.offers ∧
    (s.passOn a).bus = s.bus ∧ (s.passOn a).reports = s.reports ∧ (s.passOn a).port = s.port := by
  unfold State.passOn
  refine ⟨?_, ?_, ?_, ?_, ?_, ?_, ?_, ?_, ?_, ?_, ?_, ?_, ?_, ?_, ?_⟩ <;> (try dsimp only) <;> simp

/-- `failAll` changes the hand-overs alone. -/
@[simp] theorem State.failAll_frame (q : List Queued) :
    (s.failAll q).pending = s.pending ∧ (s.failAll q).inReset = s.inReset ∧ (s.failAll q).partPhase = s.partPhase ∧
    (s.failAll q).tick = s.tick ∧ (s.failAll q).station = s.station ∧ (s.failAll q).settings = s.settings ∧
    (s.failAll q).highway = s.highway ∧ (s.failAll q).circuits = s.circuits ∧
    (s.failAll q).restarting = s.restarting ∧ (s.failAll q).spans = s.spans ∧ (s.failAll q).hunt = s.hunt ∧
    (s.failAll q).offers = s.offers ∧ (s.failAll q).bus = s.bus ∧ (s.failAll q).reports = s.reports ∧
    (s.failAll q).port = s.port := by
  induction q generalizing s with
  | nil => simp [State.failAll]
  | cons x rest ih =>
    have h : ∀ t : State, t = (if x.dropped then s else s.handOutcome { delivered := false, frame := x.frame }) →
        t.failAll rest = s.failAll (x :: rest) := fun t e => by subst e; rfl
    rw [← h _ rfl]
    refine ⟨?_, ?_, ?_, ?_, ?_, ?_, ?_, ?_, ?_, ?_, ?_, ?_, ?_, ?_, ?_⟩ <;> (simp only [ih]; split <;> simp)

/-- `duplicate` changes the bus controller, the hand-overs and the report unit. -/
@[simp] theorem State.duplicate_frame :
    (s.duplicate).pending = s.pending ∧ (s.duplicate).inReset = s.inReset ∧ (s.duplicate).partPhase = s.partPhase ∧
    (s.duplicate).tick = s.tick ∧ (s.duplicate).station = s.station ∧ (s.duplicate).settings = s.settings ∧
    (s.duplicate).highway = s.highway ∧ (s.duplicate).circuits = s.circuits ∧
    (s.duplicate).restarting = s.restarting ∧ (s.duplicate).spans = s.spans ∧ (s.duplicate).hunt = s.hunt ∧
    (s.duplicate).offers = s.offers ∧ (s.duplicate).port = s.port := by
  unfold State.duplicate
  refine ⟨?_, ?_, ?_, ?_, ?_, ?_, ?_, ?_, ?_, ?_, ?_, ?_, ?_⟩ <;> (try dsimp only) <;> (repeat' split) <;> simp

/-- `handleFrame` changes the bus controller, the hand-overs and the report unit. -/
@[simp] theorem State.handleFrame_frame (st : Station) (c : Content) :
    (s.handleFrame st c).pending = s.pending ∧ (s.handleFrame st c).inReset = s.inReset ∧
    (s.handleFrame st c).partPhase = s.partPhase ∧ (s.handleFrame st c).tick = s.tick ∧
    (s.handleFrame st c).station = s.station ∧ (s.handleFrame st c).settings = s.settings ∧
    (s.handleFrame st c).highway = s.highway ∧ (s.handleFrame st c).circuits = s.circuits ∧
    (s.handleFrame st c).restarting = s.restarting ∧ (s.handleFrame st c).spans = s.spans ∧
    (s.handleFrame st c).hunt = s.hunt ∧ (s.handleFrame st c).offers = s.offers ∧
    (s.handleFrame st c).port = s.port := by
  unfold State.handleFrame
  refine ⟨?_, ?_, ?_, ?_, ?_, ?_, ?_, ?_, ?_, ?_, ?_, ?_, ?_⟩ <;> (repeat' split) <;> simp

/-- `received` changes the bus controller, the hand-overs and the report unit. -/
@[simp] theorem State.received_frame (r : Received) :
    (s.received r).pending = s.pending ∧ (s.received r).inReset = s.inReset ∧ (s.received r).partPhase = s.partPhase ∧
    (s.received r).tick = s.tick ∧ (s.received r).station = s.station ∧ (s.received r).settings = s.settings ∧
    (s.received r).highway = s.highway ∧ (s.received r).circuits = s.circuits ∧
    (s.received r).restarting = s.restarting ∧ (s.received r).spans = s.spans ∧ (s.received r).hunt = s.hunt ∧
    (s.received r).offers = s.offers ∧ (s.received r).port = s.port := by
  unfold State.received
  refine ⟨?_, ?_, ?_, ?_, ?_, ?_, ?_, ?_, ?_, ?_, ?_, ?_, ?_⟩ <;> (repeat' split) <;> simp

/-- `endReception` changes the bus controller, the hand-overs and the report unit. -/
@[simp] theorem State.endReception_frame :
    (s.endReception).pending = s.pending ∧ (s.endReception).inReset = s.inReset ∧
    (s.endReception).partPhase = s.partPhase ∧ (s.endReception).tick = s.tick ∧ (s.endReception).station = s.station ∧
    (s.endReception).settings = s.settings ∧ (s.endReception).highway = s.highway ∧
    (s.endReception).circuits = s.circuits ∧ (s.endReception).restarting = s.restarting ∧
    (s.endReception).spans = s.spans ∧ (s.endReception).hunt = s.hunt ∧ (s.endReception).offers = s.offers ∧
    (s.endReception).port = s.port := by
  unfold State.endReception
  refine ⟨?_, ?_, ?_, ?_, ?_, ?_, ?_, ?_, ?_, ?_, ?_, ?_, ?_⟩ <;> (try dsimp only) <;> (repeat' split) <;> simp

/-- `cutTest` changes the bus controller, the hand-overs and the report unit. -/
@[simp] theorem State.cutTest_frame :
    (s.cutTest).pending = s.pending ∧ (s.cutTest).inReset = s.inReset ∧
    (s.cutTest).partPhase = s.partPhase ∧ (s.cutTest).tick = s.tick ∧ (s.cutTest).station = s.station ∧
    (s.cutTest).settings = s.settings ∧ (s.cutTest).highway = s.highway ∧
    (s.cutTest).circuits = s.circuits ∧ (s.cutTest).restarting = s.restarting ∧
    (s.cutTest).spans = s.spans ∧ (s.cutTest).hunt = s.hunt ∧ (s.cutTest).offers = s.offers ∧
    (s.cutTest).port = s.port := by
  unfold State.cutTest
  refine ⟨?_, ?_, ?_, ?_, ?_, ?_, ?_, ?_, ?_, ?_, ?_, ?_, ?_⟩ <;> (try dsimp only) <;> (repeat' split) <;> simp

/-- `hearBit` changes the bus controller, the hand-overs and the report unit. -/
@[simp] theorem State.hearBit_frame (bit : Bit) :
    (s.hearBit bit).pending = s.pending ∧ (s.hearBit bit).inReset = s.inReset ∧
    (s.hearBit bit).partPhase = s.partPhase ∧ (s.hearBit bit).tick = s.tick ∧ (s.hearBit bit).station = s.station ∧
    (s.hearBit bit).settings = s.settings ∧ (s.hearBit bit).highway = s.highway ∧
    (s.hearBit bit).circuits = s.circuits ∧ (s.hearBit bit).restarting = s.restarting ∧
    (s.hearBit bit).spans = s.spans ∧ (s.hearBit bit).hunt = s.hunt ∧ (s.hearBit bit).offers = s.offers ∧
    (s.hearBit bit).port = s.port := by
  unfold State.hearBit
  refine ⟨?_, ?_, ?_, ?_, ?_, ?_, ?_, ?_, ?_, ?_, ?_, ?_, ?_⟩ <;> (try dsimp only) <;> (repeat' split) <;> simp

/-- `hear` changes the bus controller, the hand-overs and the report unit. -/
@[simp] theorem State.hear_frame (line : List Bit) :
    (s.hear line).pending = s.pending ∧ (s.hear line).inReset = s.inReset ∧ (s.hear line).partPhase = s.partPhase ∧
    (s.hear line).tick = s.tick ∧ (s.hear line).station = s.station ∧ (s.hear line).settings = s.settings ∧
    (s.hear line).highway = s.highway ∧ (s.hear line).circuits = s.circuits ∧
    (s.hear line).restarting = s.restarting ∧ (s.hear line).spans = s.spans ∧ (s.hear line).hunt = s.hunt ∧
    (s.hear line).offers = s.offers ∧ (s.hear line).port = s.port := by
  induction line generalizing s with
  | nil => simp [State.hear]
  | cons b rest ih => simpa [State.hear] using ih (s.hearBit b)

/-- `freeFetched` changes a hunt slot alone. -/
@[simp] theorem State.freeFetched_frame (r : Report) :
    (s.freeFetched r).pending = s.pending ∧ (s.freeFetched r).inReset = s.inReset ∧
    (s.freeFetched r).partPhase = s.partPhase ∧ (s.freeFetched r).tick = s.tick ∧
    (s.freeFetched r).station = s.station ∧ (s.freeFetched r).settings = s.settings ∧
    (s.freeFetched r).highway = s.highway ∧ (s.freeFetched r).circuits = s.circuits ∧
    (s.freeFetched r).restarting = s.restarting ∧ (s.freeFetched r).spans = s.spans ∧
    (s.freeFetched r).offers = s.offers ∧ (s.freeFetched r).bus = s.bus ∧ (s.freeFetched r).reports = s.reports ∧
    (s.freeFetched r).port = s.port ∧ (s.freeFetched r).events = s.events := by
  unfold State.freeFetched
  refine ⟨?_, ?_, ?_, ?_, ?_, ?_, ?_, ?_, ?_, ?_, ?_, ?_, ?_, ?_, ?_⟩ <;> (repeat' split) <;> simp

/-- `resyncTest` changes the report unit alone. -/
@[simp] theorem State.resyncTest_frame :
    (s.resyncTest).pending = s.pending ∧ (s.resyncTest).inReset = s.inReset ∧ (s.resyncTest).partPhase = s.partPhase ∧
    (s.resyncTest).tick = s.tick ∧ (s.resyncTest).station = s.station ∧ (s.resyncTest).settings = s.settings ∧
    (s.resyncTest).highway = s.highway ∧ (s.resyncTest).circuits = s.circuits ∧
    (s.resyncTest).restarting = s.restarting ∧ (s.resyncTest).spans = s.spans ∧ (s.resyncTest).hunt = s.hunt ∧
    (s.resyncTest).offers = s.offers ∧ (s.resyncTest).bus = s.bus ∧ (s.resyncTest).port = s.port ∧
    (s.resyncTest).events = s.events := by
  unfold State.resyncTest
  refine ⟨?_, ?_, ?_, ?_, ?_, ?_, ?_, ?_, ?_, ?_, ?_, ?_, ?_, ?_, ?_⟩ <;> (try dsimp only) <;> (repeat' split) <;> simp

end Sys2Proof.Machine
end

