-- ==== Sys2Proof/Laws/Reads.lean ====
section
/-! SUPPORT. What each operation leaves unchanged among the values derived from the records: a value whose records the
operation does not write reads as before. -/

namespace Sys2Proof.Machine

variable (s : State) (x : Slot) (y : SpanIx) (z : Nat) (h : HuntIx) (e : Circuit) (p : Purpose) (w : ReportKind)

/-- `circuit` depends on circuits alone. -/
theorem State.circuit_congr (t : State) (h0 : t.circuits = s.circuits) :
    t.circuit x = s.circuit x := by
  cases s; cases t
  dsimp only at h0
  subst h0
  rfl

/-- `span` depends on spans alone. -/
theorem State.span_congr (t : State) (h0 : t.spans = s.spans) :
    t.span y = s.span y := by
  cases s; cases t
  dsimp only at h0
  subst h0
  rfl

/-- `spanSettings` depends on settings alone. -/
theorem State.spanSettings_congr (t : State) (h0 : t.settings = s.settings) :
    t.spanSettings y = s.spanSettings y := by
  cases s; cases t
  dsimp only at h0
  subst h0
  rfl

/-- `spanProfile` depends on settings alone. -/
theorem State.spanProfile_congr (t : State) (h0 : t.settings = s.settings) :
    t.spanProfile y = s.spanProfile y := by
  cases s; cases t
  dsimp only at h0
  subst h0
  rfl

/-- `profile` depends on settings alone. -/
theorem State.profile_congr (t : State) (h0 : t.settings = s.settings) :
    t.profile x = s.profile x := by
  cases s; cases t
  dsimp only at h0
  subst h0
  rfl

/-- `circuitNumber` depends on settings alone. -/
theorem State.circuitNumber_congr (t : State) (h0 : t.settings = s.settings) :
    t.circuitNumber x = s.circuitNumber x := by
  cases s; cases t
  dsimp only at h0
  subst h0
  rfl

/-- `equipped` depends on settings alone. -/
theorem State.equipped_congr (t : State) (h0 : t.settings = s.settings) :
    t.equipped x = s.equipped x := by
  cases s; cases t
  dsimp only at h0
  subst h0
  rfl

/-- `ring` depends on settings alone. -/
theorem State.ring_congr (t : State) (h0 : t.settings = s.settings) :
    t.ring = s.ring := by
  cases s; cases t
  dsimp only at h0
  subst h0
  rfl

/-- `locate` depends on settings alone. -/
theorem State.locate_congr (t : State) (h0 : t.settings = s.settings) :
    t.locate z = s.locate z := by
  cases s; cases t
  dsimp only at h0
  subst h0
  rfl

/-- `failed` depends on spans alone. -/
theorem State.failed_congr (t : State) (h0 : t.spans = s.spans) :
    t.failed y = s.failed y := by
  cases s; cases t
  dsimp only at h0
  subst h0
  rfl

/-- `failedDefault` depends on settings and spans alone. -/
theorem State.failedDefault_congr (t : State) (h0 : t.settings = s.settings) (h1 : t.spans = s.spans) :
    t.failedDefault y = s.failedDefault y := by
  cases s; cases t
  dsimp only at h0 h1
  subst h0 h1
  rfl

/-- `huntSlot` depends on hunt alone. -/
theorem State.huntSlot_congr (t : State) (h0 : t.hunt = s.hunt) :
    t.huntSlot h = s.huntSlot h := by
  cases s; cases t
  dsimp only at h0
  subst h0
  rfl

/-- `sendingCode` depends on settings and spans alone. -/
theorem State.sendingCode_congr (t : State) (h0 : t.settings = s.settings) (h1 : t.spans = s.spans) :
    t.sendingCode x e = s.sendingCode x e := by
  cases s; cases t
  dsimp only at h0 h1
  subst h0 h1
  rfl

/-- `timerValue` depends on settings alone. -/
theorem State.timerValue_congr (t : State) (h0 : t.settings = s.settings) :
    t.timerValue x p = s.timerValue x p := by
  cases s; cases t
  dsimp only at h0
  subst h0
  rfl

/-- `startTimer` depends on settings and spans alone. -/
theorem State.startTimer_congr (t : State) (h0 : t.settings = s.settings) (h1 : t.spans = s.spans) :
    t.startTimer x p = s.startTimer x p := by
  cases s; cases t
  dsimp only at h0 h1
  subst h0 h1
  rfl

/-- `report` depends on tick alone. -/
theorem State.report_congr (t : State) (h0 : t.tick = s.tick) :
    t.report w = s.report w := by
  cases s; cases t
  dsimp only at h0
  subst h0
  rfl

/-- `eligible` depends on circuits and spans alone. -/
theorem State.eligible_congr (t : State) (h0 : t.circuits = s.circuits) (h1 : t.spans = s.spans) :
    t.eligible x = s.eligible x := by
  cases s; cases t
  dsimp only at h0 h1
  subst h0 h1
  rfl

/-- `eligibleCount` depends on circuits and spans alone. -/
theorem State.eligibleCount_congr (t : State) (h0 : t.circuits = s.circuits) (h1 : t.spans = s.spans) :
    t.eligibleCount = s.eligibleCount := by
  cases s; cases t
  dsimp only at h0 h1
  subst h0 h1
  rfl

/-- `controlled` depends on settings alone. -/
theorem State.controlled_congr (t : State) (h0 : t.settings = s.settings) :
    t.controlled x = s.controlled x := by
  cases s; cases t
  dsimp only at h0
  subst h0
  rfl

/-- Values that `setPending` leaves as they are. -/
@[simp] theorem State.setPending_reads (v : List Instr) :
    (∀ x, (s.setPending v).circuit x = s.circuit x) ∧ (∀ y, (s.setPending v).span y = s.span y) ∧
    (∀ y, (s.setPending v).spanSettings y = s.spanSettings y) ∧
    (∀ y, (s.setPending v).spanProfile y = s.spanProfile y) ∧ (∀ x, (s.setPending v).profile x = s.profile x) ∧
    (∀ x, (s.setPending v).circuitNumber x = s.circuitNumber x) ∧
    (∀ x, (s.setPending v).equipped x = s.equipped x) ∧ (s.setPending v).ring = s.ring ∧
    (∀ z, (s.setPending v).locate z = s.locate z) ∧ (∀ y, (s.setPending v).failed y = s.failed y) ∧
    (∀ y, (s.setPending v).failedDefault y = s.failedDefault y) ∧
    (∀ h, (s.setPending v).huntSlot h = s.huntSlot h) ∧
    (∀ x e, (s.setPending v).sendingCode x e = s.sendingCode x e) ∧
    (∀ x p, (s.setPending v).timerValue x p = s.timerValue x p) ∧
    (∀ x p, (s.setPending v).startTimer x p = s.startTimer x p) ∧
    (∀ w, (s.setPending v).report w = s.report w) ∧ (∀ x, (s.setPending v).eligible x = s.eligible x) ∧
    (s.setPending v).eligibleCount = s.eligibleCount ∧ (∀ x, (s.setPending v).controlled x = s.controlled x) :=
  ⟨fun x => s.circuit_congr x _ (by simp), fun y => s.span_congr y _ (by simp),
    fun y => s.spanSettings_congr y _ (by simp), fun y => s.spanProfile_congr y _ (by simp),
    fun x => s.profile_congr x _ (by simp), fun x => s.circuitNumber_congr x _ (by simp),
    fun x => s.equipped_congr x _ (by simp), s.ring_congr _ (by simp), fun z => s.locate_congr z _ (by simp),
    fun y => s.failed_congr y _ (by simp), fun y => s.failedDefault_congr y _ (by simp) (by simp),
    fun h => s.huntSlot_congr h _ (by simp), fun x e => s.sendingCode_congr x e _ (by simp) (by simp),
    fun x p => s.timerValue_congr x p _ (by simp), fun x p => s.startTimer_congr x p _ (by simp) (by simp),
    fun w => s.report_congr w _ (by simp), fun x => s.eligible_congr x _ (by simp) (by simp),
    s.eligibleCount_congr _ (by simp) (by simp), fun x => s.controlled_congr x _ (by simp)⟩

/-- Values that `setInReset` leaves as they are. -/
@[simp] theorem State.setInReset_reads (v : Bool) :
    (∀ x, (s.setInReset v).circuit x = s.circuit x) ∧ (∀ y, (s.setInReset v).span y = s.span y) ∧
    (∀ y, (s.setInReset v).spanSettings y = s.spanSettings y) ∧
    (∀ y, (s.setInReset v).spanProfile y = s.spanProfile y) ∧ (∀ x, (s.setInReset v).profile x = s.profile x) ∧
    (∀ x, (s.setInReset v).circuitNumber x = s.circuitNumber x) ∧
    (∀ x, (s.setInReset v).equipped x = s.equipped x) ∧ (s.setInReset v).ring = s.ring ∧
    (∀ z, (s.setInReset v).locate z = s.locate z) ∧ (∀ y, (s.setInReset v).failed y = s.failed y) ∧
    (∀ y, (s.setInReset v).failedDefault y = s.failedDefault y) ∧
    (∀ h, (s.setInReset v).huntSlot h = s.huntSlot h) ∧
    (∀ x e, (s.setInReset v).sendingCode x e = s.sendingCode x e) ∧
    (∀ x p, (s.setInReset v).timerValue x p = s.timerValue x p) ∧
    (∀ x p, (s.setInReset v).startTimer x p = s.startTimer x p) ∧
    (∀ w, (s.setInReset v).report w = s.report w) ∧ (∀ x, (s.setInReset v).eligible x = s.eligible x) ∧
    (s.setInReset v).eligibleCount = s.eligibleCount ∧ (∀ x, (s.setInReset v).controlled x = s.controlled x) :=
  ⟨fun x => s.circuit_congr x _ (by simp), fun y => s.span_congr y _ (by simp),
    fun y => s.spanSettings_congr y _ (by simp), fun y => s.spanProfile_congr y _ (by simp),
    fun x => s.profile_congr x _ (by simp), fun x => s.circuitNumber_congr x _ (by simp),
    fun x => s.equipped_congr x _ (by simp), s.ring_congr _ (by simp), fun z => s.locate_congr z _ (by simp),
    fun y => s.failed_congr y _ (by simp), fun y => s.failedDefault_congr y _ (by simp) (by simp),
    fun h => s.huntSlot_congr h _ (by simp), fun x e => s.sendingCode_congr x e _ (by simp) (by simp),
    fun x p => s.timerValue_congr x p _ (by simp), fun x p => s.startTimer_congr x p _ (by simp) (by simp),
    fun w => s.report_congr w _ (by simp), fun x => s.eligible_congr x _ (by simp) (by simp),
    s.eligibleCount_congr _ (by simp) (by simp), fun x => s.controlled_congr x _ (by simp)⟩

/-- Values that `setPartPhase` leaves as they are. -/
@[simp] theorem State.setPartPhase_reads (v : PartPhase) :
    (∀ x, (s.setPartPhase v).circuit x = s.circuit x) ∧ (∀ y, (s.setPartPhase v).span y = s.span y) ∧
    (∀ y, (s.setPartPhase v).spanSettings y = s.spanSettings y) ∧
    (∀ y, (s.setPartPhase v).spanProfile y = s.spanProfile y) ∧
    (∀ x, (s.setPartPhase v).profile x = s.profile x) ∧
    (∀ x, (s.setPartPhase v).circuitNumber x = s.circuitNumber x) ∧
    (∀ x, (s.setPartPhase v).equipped x = s.equipped x) ∧ (s.setPartPhase v).ring = s.ring ∧
    (∀ z, (s.setPartPhase v).locate z = s.locate z) ∧ (∀ y, (s.setPartPhase v).failed y = s.failed y) ∧
    (∀ y, (s.setPartPhase v).failedDefault y = s.failedDefault y) ∧
    (∀ h, (s.setPartPhase v).huntSlot h = s.huntSlot h) ∧
    (∀ x e, (s.setPartPhase v).sendingCode x e = s.sendingCode x e) ∧
    (∀ x p, (s.setPartPhase v).timerValue x p = s.timerValue x p) ∧
    (∀ x p, (s.setPartPhase v).startTimer x p = s.startTimer x p) ∧
    (∀ w, (s.setPartPhase v).report w = s.report w) ∧ (∀ x, (s.setPartPhase v).eligible x = s.eligible x) ∧
    (s.setPartPhase v).eligibleCount = s.eligibleCount ∧
    (∀ x, (s.setPartPhase v).controlled x = s.controlled x) :=
  ⟨fun x => s.circuit_congr x _ (by simp), fun y => s.span_congr y _ (by simp),
    fun y => s.spanSettings_congr y _ (by simp), fun y => s.spanProfile_congr y _ (by simp),
    fun x => s.profile_congr x _ (by simp), fun x => s.circuitNumber_congr x _ (by simp),
    fun x => s.equipped_congr x _ (by simp), s.ring_congr _ (by simp), fun z => s.locate_congr z _ (by simp),
    fun y => s.failed_congr y _ (by simp), fun y => s.failedDefault_congr y _ (by simp) (by simp),
    fun h => s.huntSlot_congr h _ (by simp), fun x e => s.sendingCode_congr x e _ (by simp) (by simp),
    fun x p => s.timerValue_congr x p _ (by simp), fun x p => s.startTimer_congr x p _ (by simp) (by simp),
    fun w => s.report_congr w _ (by simp), fun x => s.eligible_congr x _ (by simp) (by simp),
    s.eligibleCount_congr _ (by simp) (by simp), fun x => s.controlled_congr x _ (by simp)⟩

/-- Values that `setTick` leaves as they are. -/
@[simp] theorem State.setTick_reads (v : Stamp) :
    (∀ x, (s.setTick v).circuit x = s.circuit x) ∧ (∀ y, (s.setTick v).span y = s.span y) ∧
    (∀ y, (s.setTick v).spanSettings y = s.spanSettings y) ∧
    (∀ y, (s.setTick v).spanProfile y = s.spanProfile y) ∧ (∀ x, (s.setTick v).profile x = s.profile x) ∧
    (∀ x, (s.setTick v).circuitNumber x = s.circuitNumber x) ∧ (∀ x, (s.setTick v).equipped x = s.equipped x) ∧
    (s.setTick v).ring = s.ring ∧ (∀ z, (s.setTick v).locate z = s.locate z) ∧
    (∀ y, (s.setTick v).failed y = s.failed y) ∧ (∀ y, (s.setTick v).failedDefault y = s.failedDefault y) ∧
    (∀ h, (s.setTick v).huntSlot h = s.huntSlot h) ∧
    (∀ x e, (s.setTick v).sendingCode x e = s.sendingCode x e) ∧
    (∀ x p, (s.setTick v).timerValue x p = s.timerValue x p) ∧
    (∀ x p, (s.setTick v).startTimer x p = s.startTimer x p) ∧ (∀ x, (s.setTick v).eligible x = s.eligible x) ∧
    (s.setTick v).eligibleCount = s.eligibleCount ∧ (∀ x, (s.setTick v).controlled x = s.controlled x) :=
  ⟨fun x => s.circuit_congr x _ (by simp), fun y => s.span_congr y _ (by simp),
    fun y => s.spanSettings_congr y _ (by simp), fun y => s.spanProfile_congr y _ (by simp),
    fun x => s.profile_congr x _ (by simp), fun x => s.circuitNumber_congr x _ (by simp),
    fun x => s.equipped_congr x _ (by simp), s.ring_congr _ (by simp), fun z => s.locate_congr z _ (by simp),
    fun y => s.failed_congr y _ (by simp), fun y => s.failedDefault_congr y _ (by simp) (by simp),
    fun h => s.huntSlot_congr h _ (by simp), fun x e => s.sendingCode_congr x e _ (by simp) (by simp),
    fun x p => s.timerValue_congr x p _ (by simp), fun x p => s.startTimer_congr x p _ (by simp) (by simp),
    fun x => s.eligible_congr x _ (by simp) (by simp), s.eligibleCount_congr _ (by simp) (by simp),
    fun x => s.controlled_congr x _ (by simp)⟩

/-- Values that `setStation` leaves as they are. -/
@[simp] theorem State.setStation_reads (v : Station) :
    (∀ x, (s.setStation v).circuit x = s.circuit x) ∧ (∀ y, (s.setStation v).span y = s.span y) ∧
    (∀ y, (s.setStation v).spanSettings y = s.spanSettings y) ∧
    (∀ y, (s.setStation v).spanProfile y = s.spanProfile y) ∧ (∀ x, (s.setStation v).profile x = s.profile x) ∧
    (∀ x, (s.setStation v).circuitNumber x = s.circuitNumber x) ∧
    (∀ x, (s.setStation v).equipped x = s.equipped x) ∧ (s.setStation v).ring = s.ring ∧
    (∀ z, (s.setStation v).locate z = s.locate z) ∧ (∀ y, (s.setStation v).failed y = s.failed y) ∧
    (∀ y, (s.setStation v).failedDefault y = s.failedDefault y) ∧
    (∀ h, (s.setStation v).huntSlot h = s.huntSlot h) ∧
    (∀ x e, (s.setStation v).sendingCode x e = s.sendingCode x e) ∧
    (∀ x p, (s.setStation v).timerValue x p = s.timerValue x p) ∧
    (∀ x p, (s.setStation v).startTimer x p = s.startTimer x p) ∧
    (∀ w, (s.setStation v).report w = s.report w) ∧ (∀ x, (s.setStation v).eligible x = s.eligible x) ∧
    (s.setStation v).eligibleCount = s.eligibleCount ∧ (∀ x, (s.setStation v).controlled x = s.controlled x) :=
  ⟨fun x => s.circuit_congr x _ (by simp), fun y => s.span_congr y _ (by simp),
    fun y => s.spanSettings_congr y _ (by simp), fun y => s.spanProfile_congr y _ (by simp),
    fun x => s.profile_congr x _ (by simp), fun x => s.circuitNumber_congr x _ (by simp),
    fun x => s.equipped_congr x _ (by simp), s.ring_congr _ (by simp), fun z => s.locate_congr z _ (by simp),
    fun y => s.failed_congr y _ (by simp), fun y => s.failedDefault_congr y _ (by simp) (by simp),
    fun h => s.huntSlot_congr h _ (by simp), fun x e => s.sendingCode_congr x e _ (by simp) (by simp),
    fun x p => s.timerValue_congr x p _ (by simp), fun x p => s.startTimer_congr x p _ (by simp) (by simp),
    fun w => s.report_congr w _ (by simp), fun x => s.eligible_congr x _ (by simp) (by simp),
    s.eligibleCount_congr _ (by simp) (by simp), fun x => s.controlled_congr x _ (by simp)⟩

/-- Values that `setSettings` leaves as they are. -/
@[simp] theorem State.setSettings_reads (v : Settings) :
    (∀ x, (s.setSettings v).circuit x = s.circuit x) ∧ (∀ y, (s.setSettings v).span y = s.span y) ∧
    (∀ y, (s.setSettings v).failed y = s.failed y) ∧ (∀ h, (s.setSettings v).huntSlot h = s.huntSlot h) ∧
    (∀ w, (s.setSettings v).report w = s.report w) ∧ (∀ x, (s.setSettings v).eligible x = s.eligible x) ∧
    (s.setSettings v).eligibleCount = s.eligibleCount :=
  ⟨fun x => s.circuit_congr x _ (by simp), fun y => s.span_congr y _ (by simp),
    fun y => s.failed_congr y _ (by simp), fun h => s.huntSlot_congr h _ (by simp),
    fun w => s.report_congr w _ (by simp), fun x => s.eligible_congr x _ (by simp) (by simp),
    s.eligibleCount_congr _ (by simp) (by simp)⟩

/-- Values that `setHighway` leaves as they are. -/
@[simp] theorem State.setHighway_reads (v : Highway) :
    (∀ x, (s.setHighway v).circuit x = s.circuit x) ∧ (∀ y, (s.setHighway v).span y = s.span y) ∧
    (∀ y, (s.setHighway v).spanSettings y = s.spanSettings y) ∧
    (∀ y, (s.setHighway v).spanProfile y = s.spanProfile y) ∧ (∀ x, (s.setHighway v).profile x = s.profile x) ∧
    (∀ x, (s.setHighway v).circuitNumber x = s.circuitNumber x) ∧
    (∀ x, (s.setHighway v).equipped x = s.equipped x) ∧ (s.setHighway v).ring = s.ring ∧
    (∀ z, (s.setHighway v).locate z = s.locate z) ∧ (∀ y, (s.setHighway v).failed y = s.failed y) ∧
    (∀ y, (s.setHighway v).failedDefault y = s.failedDefault y) ∧
    (∀ h, (s.setHighway v).huntSlot h = s.huntSlot h) ∧
    (∀ x e, (s.setHighway v).sendingCode x e = s.sendingCode x e) ∧
    (∀ x p, (s.setHighway v).timerValue x p = s.timerValue x p) ∧
    (∀ x p, (s.setHighway v).startTimer x p = s.startTimer x p) ∧
    (∀ w, (s.setHighway v).report w = s.report w) ∧ (∀ x, (s.setHighway v).eligible x = s.eligible x) ∧
    (s.setHighway v).eligibleCount = s.eligibleCount ∧ (∀ x, (s.setHighway v).controlled x = s.controlled x) :=
  ⟨fun x => s.circuit_congr x _ (by simp), fun y => s.span_congr y _ (by simp),
    fun y => s.spanSettings_congr y _ (by simp), fun y => s.spanProfile_congr y _ (by simp),
    fun x => s.profile_congr x _ (by simp), fun x => s.circuitNumber_congr x _ (by simp),
    fun x => s.equipped_congr x _ (by simp), s.ring_congr _ (by simp), fun z => s.locate_congr z _ (by simp),
    fun y => s.failed_congr y _ (by simp), fun y => s.failedDefault_congr y _ (by simp) (by simp),
    fun h => s.huntSlot_congr h _ (by simp), fun x e => s.sendingCode_congr x e _ (by simp) (by simp),
    fun x p => s.timerValue_congr x p _ (by simp), fun x p => s.startTimer_congr x p _ (by simp) (by simp),
    fun w => s.report_congr w _ (by simp), fun x => s.eligible_congr x _ (by simp) (by simp),
    s.eligibleCount_congr _ (by simp) (by simp), fun x => s.controlled_congr x _ (by simp)⟩

/-- Values that `setCircuits` leaves as they are. -/
@[simp] theorem State.setCircuits_reads (v : Vector Circuit 48) :
    (∀ y, (s.setCircuits v).span y = s.span y) ∧ (∀ y, (s.setCircuits v).spanSettings y = s.spanSettings y) ∧
    (∀ y, (s.setCircuits v).spanProfile y = s.spanProfile y) ∧
    (∀ x, (s.setCircuits v).profile x = s.profile x) ∧
    (∀ x, (s.setCircuits v).circuitNumber x = s.circuitNumber x) ∧
    (∀ x, (s.setCircuits v).equipped x = s.equipped x) ∧ (s.setCircuits v).ring = s.ring ∧
    (∀ z, (s.setCircuits v).locate z = s.locate z) ∧ (∀ y, (s.setCircuits v).failed y = s.failed y) ∧
    (∀ y, (s.setCircuits v).failedDefault y = s.failedDefault y) ∧
    (∀ h, (s.setCircuits v).huntSlot h = s.huntSlot h) ∧
    (∀ x e, (s.setCircuits v).sendingCode x e = s.sendingCode x e) ∧
    (∀ x p, (s.setCircuits v).timerValue x p = s.timerValue x p) ∧
    (∀ x p, (s.setCircuits v).startTimer x p = s.startTimer x p) ∧
    (∀ w, (s.setCircuits v).report w = s.report w) ∧ (∀ x, (s.setCircuits v).controlled x = s.controlled x) :=
  ⟨fun y => s.span_congr y _ (by simp), fun y => s.spanSettings_congr y _ (by simp),
    fun y => s.spanProfile_congr y _ (by simp), fun x => s.profile_congr x _ (by simp),
    fun x => s.circuitNumber_congr x _ (by simp), fun x => s.equipped_congr x _ (by simp),
    s.ring_congr _ (by simp), fun z => s.locate_congr z _ (by simp), fun y => s.failed_congr y _ (by simp),
    fun y => s.failedDefault_congr y _ (by simp) (by simp), fun h => s.huntSlot_congr h _ (by simp),
    fun x e => s.sendingCode_congr x e _ (by simp) (by simp), fun x p => s.timerValue_congr x p _ (by simp),
    fun x p => s.startTimer_congr x p _ (by simp) (by simp), fun w => s.report_congr w _ (by simp),
    fun x => s.controlled_congr x _ (by simp)⟩

/-- Values that `setRestarting` leaves as they are. -/
@[simp] theorem State.setRestarting_reads (v : Nat) :
    (∀ x, (s.setRestarting v).circuit x = s.circuit x) ∧ (∀ y, (s.setRestarting v).span y = s.span y) ∧
    (∀ y, (s.setRestarting v).spanSettings y = s.spanSettings y) ∧
    (∀ y, (s.setRestarting v).spanProfile y = s.spanProfile y) ∧
    (∀ x, (s.setRestarting v).profile x = s.profile x) ∧
    (∀ x, (s.setRestarting v).circuitNumber x = s.circuitNumber x) ∧
    (∀ x, (s.setRestarting v).equipped x = s.equipped x) ∧ (s.setRestarting v).ring = s.ring ∧
    (∀ z, (s.setRestarting v).locate z = s.locate z) ∧ (∀ y, (s.setRestarting v).failed y = s.failed y) ∧
    (∀ y, (s.setRestarting v).failedDefault y = s.failedDefault y) ∧
    (∀ h, (s.setRestarting v).huntSlot h = s.huntSlot h) ∧
    (∀ x e, (s.setRestarting v).sendingCode x e = s.sendingCode x e) ∧
    (∀ x p, (s.setRestarting v).timerValue x p = s.timerValue x p) ∧
    (∀ x p, (s.setRestarting v).startTimer x p = s.startTimer x p) ∧
    (∀ w, (s.setRestarting v).report w = s.report w) ∧ (∀ x, (s.setRestarting v).eligible x = s.eligible x) ∧
    (s.setRestarting v).eligibleCount = s.eligibleCount ∧
    (∀ x, (s.setRestarting v).controlled x = s.controlled x) :=
  ⟨fun x => s.circuit_congr x _ (by simp), fun y => s.span_congr y _ (by simp),
    fun y => s.spanSettings_congr y _ (by simp), fun y => s.spanProfile_congr y _ (by simp),
    fun x => s.profile_congr x _ (by simp), fun x => s.circuitNumber_congr x _ (by simp),
    fun x => s.equipped_congr x _ (by simp), s.ring_congr _ (by simp), fun z => s.locate_congr z _ (by simp),
    fun y => s.failed_congr y _ (by simp), fun y => s.failedDefault_congr y _ (by simp) (by simp),
    fun h => s.huntSlot_congr h _ (by simp), fun x e => s.sendingCode_congr x e _ (by simp) (by simp),
    fun x p => s.timerValue_congr x p _ (by simp), fun x p => s.startTimer_congr x p _ (by simp) (by simp),
    fun w => s.report_congr w _ (by simp), fun x => s.eligible_congr x _ (by simp) (by simp),
    s.eligibleCount_congr _ (by simp) (by simp), fun x => s.controlled_congr x _ (by simp)⟩

/-- Values that `setSpans` leaves as they are. -/
@[simp] theorem State.setSpans_reads (v : Vector Span 3) :
    (∀ x, (s.setSpans v).circuit x = s.circuit x) ∧ (∀ y, (s.setSpans v).spanSettings y = s.spanSettings y) ∧
    (∀ y, (s.setSpans v).spanProfile y = s.spanProfile y) ∧ (∀ x, (s.setSpans v).profile x = s.profile x) ∧
    (∀ x, (s.setSpans v).circuitNumber x = s.circuitNumber x) ∧
    (∀ x, (s.setSpans v).equipped x = s.equipped x) ∧ (s.setSpans v).ring = s.ring ∧
    (∀ z, (s.setSpans v).locate z = s.locate z) ∧ (∀ h, (s.setSpans v).huntSlot h = s.huntSlot h) ∧
    (∀ x p, (s.setSpans v).timerValue x p = s.timerValue x p) ∧ (∀ w, (s.setSpans v).report w = s.report w) ∧
    (∀ x, (s.setSpans v).controlled x = s.controlled x) :=
  ⟨fun x => s.circuit_congr x _ (by simp), fun y => s.spanSettings_congr y _ (by simp),
    fun y => s.spanProfile_congr y _ (by simp), fun x => s.profile_congr x _ (by simp),
    fun x => s.circuitNumber_congr x _ (by simp), fun x => s.equipped_congr x _ (by simp),
    s.ring_congr _ (by simp), fun z => s.locate_congr z _ (by simp), fun h => s.huntSlot_congr h _ (by simp),
    fun x p => s.timerValue_congr x p _ (by simp), fun w => s.report_congr w _ (by simp),
    fun x => s.controlled_congr x _ (by simp)⟩

/-- Values that `setHunt` leaves as they are. -/
@[simp] theorem State.setHunt_reads (v : Hunt) :
    (∀ x, (s.setHunt v).circuit x = s.circuit x) ∧ (∀ y, (s.setHunt v).span y = s.span y) ∧
    (∀ y, (s.setHunt v).spanSettings y = s.spanSettings y) ∧
    (∀ y, (s.setHunt v).spanProfile y = s.spanProfile y) ∧ (∀ x, (s.setHunt v).profile x = s.profile x) ∧
    (∀ x, (s.setHunt v).circuitNumber x = s.circuitNumber x) ∧ (∀ x, (s.setHunt v).equipped x = s.equipped x) ∧
    (s.setHunt v).ring = s.ring ∧ (∀ z, (s.setHunt v).locate z = s.locate z) ∧
    (∀ y, (s.setHunt v).failed y = s.failed y) ∧ (∀ y, (s.setHunt v).failedDefault y = s.failedDefault y) ∧
    (∀ x e, (s.setHunt v).sendingCode x e = s.sendingCode x e) ∧
    (∀ x p, (s.setHunt v).timerValue x p = s.timerValue x p) ∧
    (∀ x p, (s.setHunt v).startTimer x p = s.startTimer x p) ∧ (∀ w, (s.setHunt v).report w = s.report w) ∧
    (∀ x, (s.setHunt v).eligible x = s.eligible x) ∧ (s.setHunt v).eligibleCount = s.eligibleCount ∧
    (∀ x, (s.setHunt v).controlled x = s.controlled x) :=
  ⟨fun x => s.circuit_congr x _ (by simp), fun y => s.span_congr y _ (by simp),
    fun y => s.spanSettings_congr y _ (by simp), fun y => s.spanProfile_congr y _ (by simp),
    fun x => s.profile_congr x _ (by simp), fun x => s.circuitNumber_congr x _ (by simp),
    fun x => s.equipped_congr x _ (by simp), s.ring_congr _ (by simp), fun z => s.locate_congr z _ (by simp),
    fun y => s.failed_congr y _ (by simp), fun y => s.failedDefault_congr y _ (by simp) (by simp),
    fun x e => s.sendingCode_congr x e _ (by simp) (by simp), fun x p => s.timerValue_congr x p _ (by simp),
    fun x p => s.startTimer_congr x p _ (by simp) (by simp), fun w => s.report_congr w _ (by simp),
    fun x => s.eligible_congr x _ (by simp) (by simp), s.eligibleCount_congr _ (by simp) (by simp),
    fun x => s.controlled_congr x _ (by simp)⟩

/-- Values that `setOffers` leaves as they are. -/
@[simp] theorem State.setOffers_reads (v : Offers) :
    (∀ x, (s.setOffers v).circuit x = s.circuit x) ∧ (∀ y, (s.setOffers v).span y = s.span y) ∧
    (∀ y, (s.setOffers v).spanSettings y = s.spanSettings y) ∧
    (∀ y, (s.setOffers v).spanProfile y = s.spanProfile y) ∧ (∀ x, (s.setOffers v).profile x = s.profile x) ∧
    (∀ x, (s.setOffers v).circuitNumber x = s.circuitNumber x) ∧
    (∀ x, (s.setOffers v).equipped x = s.equipped x) ∧ (s.setOffers v).ring = s.ring ∧
    (∀ z, (s.setOffers v).locate z = s.locate z) ∧ (∀ y, (s.setOffers v).failed y = s.failed y) ∧
    (∀ y, (s.setOffers v).failedDefault y = s.failedDefault y) ∧
    (∀ h, (s.setOffers v).huntSlot h = s.huntSlot h) ∧
    (∀ x e, (s.setOffers v).sendingCode x e = s.sendingCode x e) ∧
    (∀ x p, (s.setOffers v).timerValue x p = s.timerValue x p) ∧
    (∀ x p, (s.setOffers v).startTimer x p = s.startTimer x p) ∧ (∀ w, (s.setOffers v).report w = s.report w) ∧
    (∀ x, (s.setOffers v).eligible x = s.eligible x) ∧ (s.setOffers v).eligibleCount = s.eligibleCount ∧
    (∀ x, (s.setOffers v).controlled x = s.controlled x) :=
  ⟨fun x => s.circuit_congr x _ (by simp), fun y => s.span_congr y _ (by simp),
    fun y => s.spanSettings_congr y _ (by simp), fun y => s.spanProfile_congr y _ (by simp),
    fun x => s.profile_congr x _ (by simp), fun x => s.circuitNumber_congr x _ (by simp),
    fun x => s.equipped_congr x _ (by simp), s.ring_congr _ (by simp), fun z => s.locate_congr z _ (by simp),
    fun y => s.failed_congr y _ (by simp), fun y => s.failedDefault_congr y _ (by simp) (by simp),
    fun h => s.huntSlot_congr h _ (by simp), fun x e => s.sendingCode_congr x e _ (by simp) (by simp),
    fun x p => s.timerValue_congr x p _ (by simp), fun x p => s.startTimer_congr x p _ (by simp) (by simp),
    fun w => s.report_congr w _ (by simp), fun x => s.eligible_congr x _ (by simp) (by simp),
    s.eligibleCount_congr _ (by simp) (by simp), fun x => s.controlled_congr x _ (by simp)⟩

/-- Values that `setBus` leaves as they are. -/
@[simp] theorem State.setBus_reads (v : Bus) :
    (∀ x, (s.setBus v).circuit x = s.circuit x) ∧ (∀ y, (s.setBus v).span y = s.span y) ∧
    (∀ y, (s.setBus v).spanSettings y = s.spanSettings y) ∧
    (∀ y, (s.setBus v).spanProfile y = s.spanProfile y) ∧ (∀ x, (s.setBus v).profile x = s.profile x) ∧
    (∀ x, (s.setBus v).circuitNumber x = s.circuitNumber x) ∧ (∀ x, (s.setBus v).equipped x = s.equipped x) ∧
    (s.setBus v).ring = s.ring ∧ (∀ z, (s.setBus v).locate z = s.locate z) ∧
    (∀ y, (s.setBus v).failed y = s.failed y) ∧ (∀ y, (s.setBus v).failedDefault y = s.failedDefault y) ∧
    (∀ h, (s.setBus v).huntSlot h = s.huntSlot h) ∧ (∀ x e, (s.setBus v).sendingCode x e = s.sendingCode x e) ∧
    (∀ x p, (s.setBus v).timerValue x p = s.timerValue x p) ∧
    (∀ x p, (s.setBus v).startTimer x p = s.startTimer x p) ∧ (∀ w, (s.setBus v).report w = s.report w) ∧
    (∀ x, (s.setBus v).eligible x = s.eligible x) ∧ (s.setBus v).eligibleCount = s.eligibleCount ∧
    (∀ x, (s.setBus v).controlled x = s.controlled x) :=
  ⟨fun x => s.circuit_congr x _ (by simp), fun y => s.span_congr y _ (by simp),
    fun y => s.spanSettings_congr y _ (by simp), fun y => s.spanProfile_congr y _ (by simp),
    fun x => s.profile_congr x _ (by simp), fun x => s.circuitNumber_congr x _ (by simp),
    fun x => s.equipped_congr x _ (by simp), s.ring_congr _ (by simp), fun z => s.locate_congr z _ (by simp),
    fun y => s.failed_congr y _ (by simp), fun y => s.failedDefault_congr y _ (by simp) (by simp),
    fun h => s.huntSlot_congr h _ (by simp), fun x e => s.sendingCode_congr x e _ (by simp) (by simp),
    fun x p => s.timerValue_congr x p _ (by simp), fun x p => s.startTimer_congr x p _ (by simp) (by simp),
    fun w => s.report_congr w _ (by simp), fun x => s.eligible_congr x _ (by simp) (by simp),
    s.eligibleCount_congr _ (by simp) (by simp), fun x => s.controlled_congr x _ (by simp)⟩

/-- Values that `setReports` leaves as they are. -/
@[simp] theorem State.setReports_reads (v : Reports) :
    (∀ x, (s.setReports v).circuit x = s.circuit x) ∧ (∀ y, (s.setReports v).span y = s.span y) ∧
    (∀ y, (s.setReports v).spanSettings y = s.spanSettings y) ∧
    (∀ y, (s.setReports v).spanProfile y = s.spanProfile y) ∧ (∀ x, (s.setReports v).profile x = s.profile x) ∧
    (∀ x, (s.setReports v).circuitNumber x = s.circuitNumber x) ∧
    (∀ x, (s.setReports v).equipped x = s.equipped x) ∧ (s.setReports v).ring = s.ring ∧
    (∀ z, (s.setReports v).locate z = s.locate z) ∧ (∀ y, (s.setReports v).failed y = s.failed y) ∧
    (∀ y, (s.setReports v).failedDefault y = s.failedDefault y) ∧
    (∀ h, (s.setReports v).huntSlot h = s.huntSlot h) ∧
    (∀ x e, (s.setReports v).sendingCode x e = s.sendingCode x e) ∧
    (∀ x p, (s.setReports v).timerValue x p = s.timerValue x p) ∧
    (∀ x p, (s.setReports v).startTimer x p = s.startTimer x p) ∧
    (∀ w, (s.setReports v).report w = s.report w) ∧ (∀ x, (s.setReports v).eligible x = s.eligible x) ∧
    (s.setReports v).eligibleCount = s.eligibleCount ∧ (∀ x, (s.setReports v).controlled x = s.controlled x) :=
  ⟨fun x => s.circuit_congr x _ (by simp), fun y => s.span_congr y _ (by simp),
    fun y => s.spanSettings_congr y _ (by simp), fun y => s.spanProfile_congr y _ (by simp),
    fun x => s.profile_congr x _ (by simp), fun x => s.circuitNumber_congr x _ (by simp),
    fun x => s.equipped_congr x _ (by simp), s.ring_congr _ (by simp), fun z => s.locate_congr z _ (by simp),
    fun y => s.failed_congr y _ (by simp), fun y => s.failedDefault_congr y _ (by simp) (by simp),
    fun h => s.huntSlot_congr h _ (by simp), fun x e => s.sendingCode_congr x e _ (by simp) (by simp),
    fun x p => s.timerValue_congr x p _ (by simp), fun x p => s.startTimer_congr x p _ (by simp) (by simp),
    fun w => s.report_congr w _ (by simp), fun x => s.eligible_congr x _ (by simp) (by simp),
    s.eligibleCount_congr _ (by simp) (by simp), fun x => s.controlled_congr x _ (by simp)⟩

/-- Values that `setPort` leaves as they are. -/
@[simp] theorem State.setPort_reads (v : Port) :
    (∀ x, (s.setPort v).circuit x = s.circuit x) ∧ (∀ y, (s.setPort v).span y = s.span y) ∧
    (∀ y, (s.setPort v).spanSettings y = s.spanSettings y) ∧
    (∀ y, (s.setPort v).spanProfile y = s.spanProfile y) ∧ (∀ x, (s.setPort v).profile x = s.profile x) ∧
    (∀ x, (s.setPort v).circuitNumber x = s.circuitNumber x) ∧ (∀ x, (s.setPort v).equipped x = s.equipped x) ∧
    (s.setPort v).ring = s.ring ∧ (∀ z, (s.setPort v).locate z = s.locate z) ∧
    (∀ y, (s.setPort v).failed y = s.failed y) ∧ (∀ y, (s.setPort v).failedDefault y = s.failedDefault y) ∧
    (∀ h, (s.setPort v).huntSlot h = s.huntSlot h) ∧
    (∀ x e, (s.setPort v).sendingCode x e = s.sendingCode x e) ∧
    (∀ x p, (s.setPort v).timerValue x p = s.timerValue x p) ∧
    (∀ x p, (s.setPort v).startTimer x p = s.startTimer x p) ∧ (∀ w, (s.setPort v).report w = s.report w) ∧
    (∀ x, (s.setPort v).eligible x = s.eligible x) ∧ (s.setPort v).eligibleCount = s.eligibleCount ∧
    (∀ x, (s.setPort v).controlled x = s.controlled x) :=
  ⟨fun x => s.circuit_congr x _ (by simp), fun y => s.span_congr y _ (by simp),
    fun y => s.spanSettings_congr y _ (by simp), fun y => s.spanProfile_congr y _ (by simp),
    fun x => s.profile_congr x _ (by simp), fun x => s.circuitNumber_congr x _ (by simp),
    fun x => s.equipped_congr x _ (by simp), s.ring_congr _ (by simp), fun z => s.locate_congr z _ (by simp),
    fun y => s.failed_congr y _ (by simp), fun y => s.failedDefault_congr y _ (by simp) (by simp),
    fun h => s.huntSlot_congr h _ (by simp), fun x e => s.sendingCode_congr x e _ (by simp) (by simp),
    fun x p => s.timerValue_congr x p _ (by simp), fun x p => s.startTimer_congr x p _ (by simp) (by simp),
    fun w => s.report_congr w _ (by simp), fun x => s.eligible_congr x _ (by simp) (by simp),
    s.eligibleCount_congr _ (by simp) (by simp), fun x => s.controlled_congr x _ (by simp)⟩

/-- Values that `setEvents` leaves as they are. -/
@[simp] theorem State.setEvents_reads (v : Events) :
    (∀ x, (s.setEvents v).circuit x = s.circuit x) ∧ (∀ y, (s.setEvents v).span y = s.span y) ∧
    (∀ y, (s.setEvents v).spanSettings y = s.spanSettings y) ∧
    (∀ y, (s.setEvents v).spanProfile y = s.spanProfile y) ∧ (∀ x, (s.setEvents v).profile x = s.profile x) ∧
    (∀ x, (s.setEvents v).circuitNumber x = s.circuitNumber x) ∧
    (∀ x, (s.setEvents v).equipped x = s.equipped x) ∧ (s.setEvents v).ring = s.ring ∧
    (∀ z, (s.setEvents v).locate z = s.locate z) ∧ (∀ y, (s.setEvents v).failed y = s.failed y) ∧
    (∀ y, (s.setEvents v).failedDefault y = s.failedDefault y) ∧
    (∀ h, (s.setEvents v).huntSlot h = s.huntSlot h) ∧
    (∀ x e, (s.setEvents v).sendingCode x e = s.sendingCode x e) ∧
    (∀ x p, (s.setEvents v).timerValue x p = s.timerValue x p) ∧
    (∀ x p, (s.setEvents v).startTimer x p = s.startTimer x p) ∧ (∀ w, (s.setEvents v).report w = s.report w) ∧
    (∀ x, (s.setEvents v).eligible x = s.eligible x) ∧ (s.setEvents v).eligibleCount = s.eligibleCount ∧
    (∀ x, (s.setEvents v).controlled x = s.controlled x) :=
  ⟨fun x => s.circuit_congr x _ (by simp), fun y => s.span_congr y _ (by simp),
    fun y => s.spanSettings_congr y _ (by simp), fun y => s.spanProfile_congr y _ (by simp),
    fun x => s.profile_congr x _ (by simp), fun x => s.circuitNumber_congr x _ (by simp),
    fun x => s.equipped_congr x _ (by simp), s.ring_congr _ (by simp), fun z => s.locate_congr z _ (by simp),
    fun y => s.failed_congr y _ (by simp), fun y => s.failedDefault_congr y _ (by simp) (by simp),
    fun h => s.huntSlot_congr h _ (by simp), fun x e => s.sendingCode_congr x e _ (by simp) (by simp),
    fun x p => s.timerValue_congr x p _ (by simp), fun x p => s.startTimer_congr x p _ (by simp) (by simp),
    fun w => s.report_congr w _ (by simp), fun x => s.eligible_congr x _ (by simp) (by simp),
    s.eligibleCount_congr _ (by simp) (by simp), fun x => s.controlled_congr x _ (by simp)⟩

/-- Values that `writeCircuit` leaves as they are. -/
@[simp] theorem State.writeCircuit_reads (slot : Slot) (c : Circuit) :
    (∀ y, (s.writeCircuit slot c).span y = s.span y) ∧
    (∀ y, (s.writeCircuit slot c).spanSettings y = s.spanSettings y) ∧
    (∀ y, (s.writeCircuit slot c).spanProfile y = s.spanProfile y) ∧
    (∀ x, (s.writeCircuit slot c).profile x = s.profile x) ∧
    (∀ x, (s.writeCircuit slot c).circuitNumber x = s.circuitNumber x) ∧
    (∀ x, (s.writeCircuit slot c).equipped x = s.equipped x) ∧ (s.writeCircuit slot c).ring = s.ring ∧
    (∀ z, (s.writeCircuit slot c).locate z = s.locate z) ∧
    (∀ y, (s.writeCircuit slot c).failed y = s.failed y) ∧
    (∀ y, (s.writeCircuit slot c).failedDefault y = s.failedDefault y) ∧
    (∀ h, (s.writeCircuit slot c).huntSlot h = s.huntSlot h) ∧
    (∀ x e, (s.writeCircuit slot c).sendingCode x e = s.sendingCode x e) ∧
    (∀ x p, (s.writeCircuit slot c).timerValue x p = s.timerValue x p) ∧
    (∀ x p, (s.writeCircuit slot c).startTimer x p = s.startTimer x p) ∧
    (∀ w, (s.writeCircuit slot c).report w = s.report w) ∧
    (∀ x, (s.writeCircuit slot c).controlled x = s.controlled x) :=
  ⟨fun y => s.span_congr y _ (by simp), fun y => s.spanSettings_congr y _ (by simp),
    fun y => s.spanProfile_congr y _ (by simp), fun x => s.profile_congr x _ (by simp),
    fun x => s.circuitNumber_congr x _ (by simp), fun x => s.equipped_congr x _ (by simp),
    s.ring_congr _ (by simp), fun z => s.locate_congr z _ (by simp), fun y => s.failed_congr y _ (by simp),
    fun y => s.failedDefault_congr y _ (by simp) (by simp), fun h => s.huntSlot_congr h _ (by simp),
    fun x e => s.sendingCode_congr x e _ (by simp) (by simp), fun x p => s.timerValue_congr x p _ (by simp),
    fun x p => s.startTimer_congr x p _ (by simp) (by simp), fun w => s.report_congr w _ (by simp),
    fun x => s.controlled_congr x _ (by simp)⟩

/-- Values that `putCircuit` leaves as they are. -/
@[simp] theorem State.putCircuit_reads (slot : Slot) (c : Circuit) :
    (∀ y, (s.putCircuit slot c).span y = s.span y) ∧
    (∀ y, (s.putCircuit slot c).spanSettings y = s.spanSettings y) ∧
    (∀ y, (s.putCircuit slot c).spanProfile y = s.spanProfile y) ∧
    (∀ x, (s.putCircuit slot c).profile x = s.profile x) ∧
    (∀ x, (s.putCircuit slot c).circuitNumber x = s.circuitNumber x) ∧
    (∀ x, (s.putCircuit slot c).equipped x = s.equipped x) ∧ (s.putCircuit slot c).ring = s.ring ∧
    (∀ z, (s.putCircuit slot c).locate z = s.locate z) ∧ (∀ y, (s.putCircuit slot c).failed y = s.failed y) ∧
    (∀ y, (s.putCircuit slot c).failedDefault y = s.failedDefault y) ∧
    (∀ h, (s.putCircuit slot c).huntSlot h = s.huntSlot h) ∧
    (∀ x e, (s.putCircuit slot c).sendingCode x e = s.sendingCode x e) ∧
    (∀ x p, (s.putCircuit slot c).timerValue x p = s.timerValue x p) ∧
    (∀ x p, (s.putCircuit slot c).startTimer x p = s.startTimer x p) ∧
    (∀ w, (s.putCircuit slot c).report w = s.report w) ∧
    (∀ x, (s.putCircuit slot c).controlled x = s.controlled x) :=
  ⟨fun y => s.span_congr y _ (by simp), fun y => s.spanSettings_congr y _ (by simp),
    fun y => s.spanProfile_congr y _ (by simp), fun x => s.profile_congr x _ (by simp),
    fun x => s.circuitNumber_congr x _ (by simp), fun x => s.equipped_congr x _ (by simp),
    s.ring_congr _ (by simp), fun z => s.locate_congr z _ (by simp), fun y => s.failed_congr y _ (by simp),
    fun y => s.failedDefault_congr y _ (by simp) (by simp), fun h => s.huntSlot_congr h _ (by simp),
    fun x e => s.sendingCode_congr x e _ (by simp) (by simp), fun x p => s.timerValue_congr x p _ (by simp),
    fun x p => s.startTimer_congr x p _ (by simp) (by simp), fun w => s.report_congr w _ (by simp),
    fun x => s.controlled_congr x _ (by simp)⟩

/-- Values that `putSpan` leaves as they are. -/
@[simp] theorem State.putSpan_reads (sp : SpanIx) (g : Span) :
    (∀ x, (s.putSpan sp g).circuit x = s.circuit x) ∧
    (∀ y, (s.putSpan sp g).spanSettings y = s.spanSettings y) ∧
    (∀ y, (s.putSpan sp g).spanProfile y = s.spanProfile y) ∧ (∀ x, (s.putSpan sp g).profile x = s.profile x) ∧
    (∀ x, (s.putSpan sp g).circuitNumber x = s.circuitNumber x) ∧
    (∀ x, (s.putSpan sp g).equipped x = s.equipped x) ∧ (s.putSpan sp g).ring = s.ring ∧
    (∀ z, (s.putSpan sp g).locate z = s.locate z) ∧ (∀ h, (s.putSpan sp g).huntSlot h = s.huntSlot h) ∧
    (∀ x p, (s.putSpan sp g).timerValue x p = s.timerValue x p) ∧
    (∀ w, (s.putSpan sp g).report w = s.report w) ∧ (∀ x, (s.putSpan sp g).controlled x = s.controlled x) :=
  ⟨fun x => s.circuit_congr x _ (by simp), fun y => s.spanSettings_congr y _ (by simp),
    fun y => s.spanProfile_congr y _ (by simp), fun x => s.profile_congr x _ (by simp),
    fun x => s.circuitNumber_congr x _ (by simp), fun x => s.equipped_congr x _ (by simp),
    s.ring_congr _ (by simp), fun z => s.locate_congr z _ (by simp), fun h => s.huntSlot_congr h _ (by simp),
    fun x p => s.timerValue_congr x p _ (by simp), fun w => s.report_congr w _ (by simp),
    fun x => s.controlled_congr x _ (by simp)⟩

/-- Values that `setReportQueue` leaves as they are. -/
@[simp] theorem State.setReportQueue_reads (q : List Report) :
    (∀ x, (s.setReportQueue q).circuit x = s.circuit x) ∧ (∀ y, (s.setReportQueue q).span y = s.span y) ∧
    (∀ y, (s.setReportQueue q).spanSettings y = s.spanSettings y) ∧
    (∀ y, (s.setReportQueue q).spanProfile y = s.spanProfile y) ∧
    (∀ x, (s.setReportQueue q).profile x = s.profile x) ∧
    (∀ x, (s.setReportQueue q).circuitNumber x = s.circuitNumber x) ∧
    (∀ x, (s.setReportQueue q).equipped x = s.equipped x) ∧ (s.setReportQueue q).ring = s.ring ∧
    (∀ z, (s.setReportQueue q).locate z = s.locate z) ∧ (∀ y, (s.setReportQueue q).failed y = s.failed y) ∧
    (∀ y, (s.setReportQueue q).failedDefault y = s.failedDefault y) ∧
    (∀ h, (s.setReportQueue q).huntSlot h = s.huntSlot h) ∧
    (∀ x e, (s.setReportQueue q).sendingCode x e = s.sendingCode x e) ∧
    (∀ x p, (s.setReportQueue q).timerValue x p = s.timerValue x p) ∧
    (∀ x p, (s.setReportQueue q).startTimer x p = s.startTimer x p) ∧
    (∀ w, (s.setReportQueue q).report w = s.report w) ∧ (∀ x, (s.setReportQueue q).eligible x = s.eligible x) ∧
    (s.setReportQueue q).eligibleCount = s.eligibleCount ∧
    (∀ x, (s.setReportQueue q).controlled x = s.controlled x) :=
  ⟨fun x => s.circuit_congr x _ (by simp), fun y => s.span_congr y _ (by simp),
    fun y => s.spanSettings_congr y _ (by simp), fun y => s.spanProfile_congr y _ (by simp),
    fun x => s.profile_congr x _ (by simp), fun x => s.circuitNumber_congr x _ (by simp),
    fun x => s.equipped_congr x _ (by simp), s.ring_congr _ (by simp), fun z => s.locate_congr z _ (by simp),
    fun y => s.failed_congr y _ (by simp), fun y => s.failedDefault_congr y _ (by simp) (by simp),
    fun h => s.huntSlot_congr h _ (by simp), fun x e => s.sendingCode_congr x e _ (by simp) (by simp),
    fun x p => s.timerValue_congr x p _ (by simp), fun x p => s.startTimer_congr x p _ (by simp) (by simp),
    fun w => s.report_congr w _ (by simp), fun x => s.eligible_congr x _ (by simp) (by simp),
    s.eligibleCount_congr _ (by simp) (by simp), fun x => s.controlled_congr x _ (by simp)⟩

/-- Values that `post` leaves as they are. -/
@[simp] theorem State.post_reads (d : Option Slot) (r : Report) :
    (∀ x, (s.post d r).circuit x = s.circuit x) ∧ (∀ y, (s.post d r).span y = s.span y) ∧
    (∀ y, (s.post d r).spanSettings y = s.spanSettings y) ∧
    (∀ y, (s.post d r).spanProfile y = s.spanProfile y) ∧ (∀ x, (s.post d r).profile x = s.profile x) ∧
    (∀ x, (s.post d r).circuitNumber x = s.circuitNumber x) ∧ (∀ x, (s.post d r).equipped x = s.equipped x) ∧
    (s.post d r).ring = s.ring ∧ (∀ z, (s.post d r).locate z = s.locate z) ∧
    (∀ y, (s.post d r).failed y = s.failed y) ∧ (∀ y, (s.post d r).failedDefault y = s.failedDefault y) ∧
    (∀ h, (s.post d r).huntSlot h = s.huntSlot h) ∧ (∀ x e, (s.post d r).sendingCode x e = s.sendingCode x e) ∧
    (∀ x p, (s.post d r).timerValue x p = s.timerValue x p) ∧
    (∀ x p, (s.post d r).startTimer x p = s.startTimer x p) ∧ (∀ w, (s.post d r).report w = s.report w) ∧
    (∀ x, (s.post d r).eligible x = s.eligible x) ∧ (s.post d r).eligibleCount = s.eligibleCount ∧
    (∀ x, (s.post d r).controlled x = s.controlled x) :=
  ⟨fun x => s.circuit_congr x _ (by simp), fun y => s.span_congr y _ (by simp),
    fun y => s.spanSettings_congr y _ (by simp), fun y => s.spanProfile_congr y _ (by simp),
    fun x => s.profile_congr x _ (by simp), fun x => s.circuitNumber_congr x _ (by simp),
    fun x => s.equipped_congr x _ (by simp), s.ring_congr _ (by simp), fun z => s.locate_congr z _ (by simp),
    fun y => s.failed_congr y _ (by simp), fun y => s.failedDefault_congr y _ (by simp) (by simp),
    fun h => s.huntSlot_congr h _ (by simp), fun x e => s.sendingCode_congr x e _ (by simp) (by simp),
    fun x p => s.timerValue_congr x p _ (by simp), fun x p => s.startTimer_congr x p _ (by simp) (by simp),
    fun w => s.report_congr w _ (by simp), fun x => s.eligible_congr x _ (by simp) (by simp),
    s.eligibleCount_congr _ (by simp) (by simp), fun x => s.controlled_congr x _ (by simp)⟩

/-- Values that `postCircuit` leaves as they are. -/
@[simp] theorem State.postCircuit_reads (k : ReportKind) (slot : Slot) (c : Circuit) (n : Nat) :
    (∀ x, (s.postCircuit k slot c n).circuit x = s.circuit x) ∧
    (∀ y, (s.postCircuit k slot c n).span y = s.span y) ∧
    (∀ y, (s.postCircuit k slot c n).spanSettings y = s.spanSettings y) ∧
    (∀ y, (s.postCircuit k slot c n).spanProfile y = s.spanProfile y) ∧
    (∀ x, (s.postCircuit k slot c n).profile x = s.profile x) ∧
    (∀ x, (s.postCircuit k slot c n).circuitNumber x = s.circuitNumber x) ∧
    (∀ x, (s.postCircuit k slot c n).equipped x = s.equipped x) ∧ (s.postCircuit k slot c n).ring = s.ring ∧
    (∀ z, (s.postCircuit k slot c n).locate z = s.locate z) ∧
    (∀ y, (s.postCircuit k slot c n).failed y = s.failed y) ∧
    (∀ y, (s.postCircuit k slot c n).failedDefault y = s.failedDefault y) ∧
    (∀ h, (s.postCircuit k slot c n).huntSlot h = s.huntSlot h) ∧
    (∀ x e, (s.postCircuit k slot c n).sendingCode x e = s.sendingCode x e) ∧
    (∀ x p, (s.postCircuit k slot c n).timerValue x p = s.timerValue x p) ∧
    (∀ x p, (s.postCircuit k slot c n).startTimer x p = s.startTimer x p) ∧
    (∀ w, (s.postCircuit k slot c n).report w = s.report w) ∧
    (∀ x, (s.postCircuit k slot c n).eligible x = s.eligible x) ∧
    (s.postCircuit k slot c n).eligibleCount = s.eligibleCount ∧
    (∀ x, (s.postCircuit k slot c n).controlled x = s.controlled x) :=
  ⟨fun x => s.circuit_congr x _ (by simp), fun y => s.span_congr y _ (by simp),
    fun y => s.spanSettings_congr y _ (by simp), fun y => s.spanProfile_congr y _ (by simp),
    fun x => s.profile_congr x _ (by simp), fun x => s.circuitNumber_congr x _ (by simp),
    fun x => s.equipped_congr x _ (by simp), s.ring_congr _ (by simp), fun z => s.locate_congr z _ (by simp),
    fun y => s.failed_congr y _ (by simp), fun y => s.failedDefault_congr y _ (by simp) (by simp),
    fun h => s.huntSlot_congr h _ (by simp), fun x e => s.sendingCode_congr x e _ (by simp) (by simp),
    fun x p => s.timerValue_congr x p _ (by simp), fun x p => s.startTimer_congr x p _ (by simp) (by simp),
    fun w => s.report_congr w _ (by simp), fun x => s.eligible_congr x _ (by simp) (by simp),
    s.eligibleCount_congr _ (by simp) (by simp), fun x => s.controlled_congr x _ (by simp)⟩

/-- Values that `postSpan` leaves as they are. -/
@[simp] theorem State.postSpan_reads (k : ReportKind) (sp : SpanIx) :
    (∀ x, (s.postSpan k sp).circuit x = s.circuit x) ∧ (∀ y, (s.postSpan k sp).span y = s.span y) ∧
    (∀ y, (s.postSpan k sp).spanSettings y = s.spanSettings y) ∧
    (∀ y, (s.postSpan k sp).spanProfile y = s.spanProfile y) ∧
    (∀ x, (s.postSpan k sp).profile x = s.profile x) ∧
    (∀ x, (s.postSpan k sp).circuitNumber x = s.circuitNumber x) ∧
    (∀ x, (s.postSpan k sp).equipped x = s.equipped x) ∧ (s.postSpan k sp).ring = s.ring ∧
    (∀ z, (s.postSpan k sp).locate z = s.locate z) ∧ (∀ y, (s.postSpan k sp).failed y = s.failed y) ∧
    (∀ y, (s.postSpan k sp).failedDefault y = s.failedDefault y) ∧
    (∀ h, (s.postSpan k sp).huntSlot h = s.huntSlot h) ∧
    (∀ x e, (s.postSpan k sp).sendingCode x e = s.sendingCode x e) ∧
    (∀ x p, (s.postSpan k sp).timerValue x p = s.timerValue x p) ∧
    (∀ x p, (s.postSpan k sp).startTimer x p = s.startTimer x p) ∧
    (∀ w, (s.postSpan k sp).report w = s.report w) ∧ (∀ x, (s.postSpan k sp).eligible x = s.eligible x) ∧
    (s.postSpan k sp).eligibleCount = s.eligibleCount ∧
    (∀ x, (s.postSpan k sp).controlled x = s.controlled x) :=
  ⟨fun x => s.circuit_congr x _ (by simp), fun y => s.span_congr y _ (by simp),
    fun y => s.spanSettings_congr y _ (by simp), fun y => s.spanProfile_congr y _ (by simp),
    fun x => s.profile_congr x _ (by simp), fun x => s.circuitNumber_congr x _ (by simp),
    fun x => s.equipped_congr x _ (by simp), s.ring_congr _ (by simp), fun z => s.locate_congr z _ (by simp),
    fun y => s.failed_congr y _ (by simp), fun y => s.failedDefault_congr y _ (by simp) (by simp),
    fun h => s.huntSlot_congr h _ (by simp), fun x e => s.sendingCode_congr x e _ (by simp) (by simp),
    fun x p => s.timerValue_congr x p _ (by simp), fun x p => s.startTimer_congr x p _ (by simp) (by simp),
    fun w => s.report_congr w _ (by simp), fun x => s.eligible_congr x _ (by simp) (by simp),
    s.eligibleCount_congr _ (by simp) (by simp), fun x => s.controlled_congr x _ (by simp)⟩

/-- Values that `postBus` leaves as they are. -/
@[simp] theorem State.postBus_reads (k : ReportKind) :
    (∀ x, (s.postBus k).circuit x = s.circuit x) ∧ (∀ y, (s.postBus k).span y = s.span y) ∧
    (∀ y, (s.postBus k).spanSettings y = s.spanSettings y) ∧
    (∀ y, (s.postBus k).spanProfile y = s.spanProfile y) ∧ (∀ x, (s.postBus k).profile x = s.profile x) ∧
    (∀ x, (s.postBus k).circuitNumber x = s.circuitNumber x) ∧ (∀ x, (s.postBus k).equipped x = s.equipped x) ∧
    (s.postBus k).ring = s.ring ∧ (∀ z, (s.postBus k).locate z = s.locate z) ∧
    (∀ y, (s.postBus k).failed y = s.failed y) ∧ (∀ y, (s.postBus k).failedDefault y = s.failedDefault y) ∧
    (∀ h, (s.postBus k).huntSlot h = s.huntSlot h) ∧
    (∀ x e, (s.postBus k).sendingCode x e = s.sendingCode x e) ∧
    (∀ x p, (s.postBus k).timerValue x p = s.timerValue x p) ∧
    (∀ x p, (s.postBus k).startTimer x p = s.startTimer x p) ∧ (∀ w, (s.postBus k).report w = s.report w) ∧
    (∀ x, (s.postBus k).eligible x = s.eligible x) ∧ (s.postBus k).eligibleCount = s.eligibleCount ∧
    (∀ x, (s.postBus k).controlled x = s.controlled x) :=
  ⟨fun x => s.circuit_congr x _ (by simp), fun y => s.span_congr y _ (by simp),
    fun y => s.spanSettings_congr y _ (by simp), fun y => s.spanProfile_congr y _ (by simp),
    fun x => s.profile_congr x _ (by simp), fun x => s.circuitNumber_congr x _ (by simp),
    fun x => s.equipped_congr x _ (by simp), s.ring_congr _ (by simp), fun z => s.locate_congr z _ (by simp),
    fun y => s.failed_congr y _ (by simp), fun y => s.failedDefault_congr y _ (by simp) (by simp),
    fun h => s.huntSlot_congr h _ (by simp), fun x e => s.sendingCode_congr x e _ (by simp) (by simp),
    fun x p => s.timerValue_congr x p _ (by simp), fun x p => s.startTimer_congr x p _ (by simp) (by simp),
    fun w => s.report_congr w _ (by simp), fun x => s.eligible_congr x _ (by simp) (by simp),
    s.eligibleCount_congr _ (by simp) (by simp), fun x => s.controlled_congr x _ (by simp)⟩

/-- Values that `unexpected` leaves as they are. -/
@[simp] theorem State.unexpected_reads (slot : Slot) (a b : Code) :
    (∀ x, (s.unexpected slot a b).circuit x = s.circuit x) ∧ (∀ y, (s.unexpected slot a b).span y = s.span y) ∧
    (∀ y, (s.unexpected slot a b).spanSettings y = s.spanSettings y) ∧
    (∀ y, (s.unexpected slot a b).spanProfile y = s.spanProfile y) ∧
    (∀ x, (s.unexpected slot a b).profile x = s.profile x) ∧
    (∀ x, (s.unexpected slot a b).circuitNumber x = s.circuitNumber x) ∧
    (∀ x, (s.unexpected slot a b).equipped x = s.equipped x) ∧ (s.unexpected slot a b).ring = s.ring ∧
    (∀ z, (s.unexpected slot a b).locate z = s.locate z) ∧
    (∀ y, (s.unexpected slot a b).failed y = s.failed y) ∧
    (∀ y, (s.unexpected slot a b).failedDefault y = s.failedDefault y) ∧
    (∀ h, (s.unexpected slot a b).huntSlot h = s.huntSlot h) ∧
    (∀ x e, (s.unexpected slot a b).sendingCode x e = s.sendingCode x e) ∧
    (∀ x p, (s.unexpected slot a b).timerValue x p = s.timerValue x p) ∧
    (∀ x p, (s.unexpected slot a b).startTimer x p = s.startTimer x p) ∧
    (∀ w, (s.unexpected slot a b).report w = s.report w) ∧
    (∀ x, (s.unexpected slot a b).eligible x = s.eligible x) ∧
    (s.unexpected slot a b).eligibleCount = s.eligibleCount ∧
    (∀ x, (s.unexpected slot a b).controlled x = s.controlled x) :=
  ⟨fun x => s.circuit_congr x _ (by simp), fun y => s.span_congr y _ (by simp),
    fun y => s.spanSettings_congr y _ (by simp), fun y => s.spanProfile_congr y _ (by simp),
    fun x => s.profile_congr x _ (by simp), fun x => s.circuitNumber_congr x _ (by simp),
    fun x => s.equipped_congr x _ (by simp), s.ring_congr _ (by simp), fun z => s.locate_congr z _ (by simp),
    fun y => s.failed_congr y _ (by simp), fun y => s.failedDefault_congr y _ (by simp) (by simp),
    fun h => s.huntSlot_congr h _ (by simp), fun x e => s.sendingCode_congr x e _ (by simp) (by simp),
    fun x p => s.timerValue_congr x p _ (by simp), fun x p => s.startTimer_congr x p _ (by simp) (by simp),
    fun w => s.report_congr w _ (by simp), fun x => s.eligible_congr x _ (by simp) (by simp),
    s.eligibleCount_congr _ (by simp) (by simp), fun x => s.controlled_congr x _ (by simp)⟩

/-- Values that `handOutcome` leaves as they are. -/
@[simp] theorem State.handOutcome_reads (o : FrameOutcome) :
    (∀ x, (s.handOutcome o).circuit x = s.circuit x) ∧ (∀ y, (s.handOutcome o).span y = s.span y) ∧
    (∀ y, (s.handOutcome o).spanSettings y = s.spanSettings y) ∧
    (∀ y, (s.handOutcome o).spanProfile y = s.spanProfile y) ∧
    (∀ x, (s.handOutcome o).profile x = s.profile x) ∧
    (∀ x, (s.handOutcome o).circuitNumber x = s.circuitNumber x) ∧
    (∀ x, (s.handOutcome o).equipped x = s.equipped x) ∧ (s.handOutcome o).ring = s.ring ∧
    (∀ z, (s.handOutcome o).locate z = s.locate z) ∧ (∀ y, (s.handOutcome o).failed y = s.failed y) ∧
    (∀ y, (s.handOutcome o).failedDefault y = s.failedDefault y) ∧
    (∀ h, (s.handOutcome o).huntSlot h = s.huntSlot h) ∧
    (∀ x e, (s.handOutcome o).sendingCode x e = s.sendingCode x e) ∧
    (∀ x p, (s.handOutcome o).timerValue x p = s.timerValue x p) ∧
    (∀ x p, (s.handOutcome o).startTimer x p = s.startTimer x p) ∧
    (∀ w, (s.handOutcome o).report w = s.report w) ∧ (∀ x, (s.handOutcome o).eligible x = s.eligible x) ∧
    (s.handOutcome o).eligibleCount = s.eligibleCount ∧
    (∀ x, (s.handOutcome o).controlled x = s.controlled x) :=
  ⟨fun x => s.circuit_congr x _ (by simp), fun y => s.span_congr y _ (by simp),
    fun y => s.spanSettings_congr y _ (by simp), fun y => s.spanProfile_congr y _ (by simp),
    fun x => s.profile_congr x _ (by simp), fun x => s.circuitNumber_congr x _ (by simp),
    fun x => s.equipped_congr x _ (by simp), s.ring_congr _ (by simp), fun z => s.locate_congr z _ (by simp),
    fun y => s.failed_congr y _ (by simp), fun y => s.failedDefault_congr y _ (by simp) (by simp),
    fun h => s.huntSlot_congr h _ (by simp), fun x e => s.sendingCode_congr x e _ (by simp) (by simp),
    fun x p => s.timerValue_congr x p _ (by simp), fun x p => s.startTimer_congr x p _ (by simp) (by simp),
    fun w => s.report_congr w _ (by simp), fun x => s.eligible_congr x _ (by simp) (by simp),
    s.eligibleCount_congr _ (by simp) (by simp), fun x => s.controlled_congr x _ (by simp)⟩

/-- Values that `sendFrame` leaves as they are. -/
@[simp] theorem State.sendFrame_reads (f : Directed) :
    (∀ x, (s.sendFrame f).circuit x = s.circuit x) ∧ (∀ y, (s.sendFrame f).span y = s.span y) ∧
    (∀ y, (s.sendFrame f).spanSettings y = s.spanSettings y) ∧
    (∀ y, (s.sendFrame f).spanProfile y = s.spanProfile y) ∧ (∀ x, (s.sendFrame f).profile x = s.profile x) ∧
    (∀ x, (s.sendFrame f).circuitNumber x = s.circuitNumber x) ∧
    (∀ x, (s.sendFrame f).equipped x = s.equipped x) ∧ (s.sendFrame f).ring = s.ring ∧
    (∀ z, (s.sendFrame f).locate z = s.locate z) ∧ (∀ y, (s.sendFrame f).failed y = s.failed y) ∧
    (∀ y, (s.sendFrame f).failedDefault y = s.failedDefault y) ∧
    (∀ h, (s.sendFrame f).huntSlot h = s.huntSlot h) ∧
    (∀ x e, (s.sendFrame f).sendingCode x e = s.sendingCode x e) ∧
    (∀ x p, (s.sendFrame f).timerValue x p = s.timerValue x p) ∧
    (∀ x p, (s.sendFrame f).startTimer x p = s.startTimer x p) ∧ (∀ w, (s.sendFrame f).report w = s.report w) ∧
    (∀ x, (s.sendFrame f).eligible x = s.eligible x) ∧ (s.sendFrame f).eligibleCount = s.eligibleCount ∧
    (∀ x, (s.sendFrame f).controlled x = s.controlled x) :=
  ⟨fun x => s.circuit_congr x _ (by simp), fun y => s.span_congr y _ (by simp),
    fun y => s.spanSettings_congr y _ (by simp), fun y => s.spanProfile_congr y _ (by simp),
    fun x => s.profile_congr x _ (by simp), fun x => s.circuitNumber_congr x _ (by simp),
    fun x => s.equipped_congr x _ (by simp), s.ring_congr _ (by simp), fun z => s.locate_congr z _ (by simp),
    fun y => s.failed_congr y _ (by simp), fun y => s.failedDefault_congr y _ (by simp) (by simp),
    fun h => s.huntSlot_congr h _ (by simp), fun x e => s.sendingCode_congr x e _ (by simp) (by simp),
    fun x p => s.timerValue_congr x p _ (by simp), fun x p => s.startTimer_congr x p _ (by simp) (by simp),
    fun w => s.report_congr w _ (by simp), fun x => s.eligible_congr x _ (by simp) (by simp),
    s.eligibleCount_congr _ (by simp) (by simp), fun x => s.controlled_congr x _ (by simp)⟩

/-- Values that `writeLevel` leaves as they are. -/
@[simp] theorem State.writeLevel_reads  :
    (∀ x, (s.writeLevel).circuit x = s.circuit x) ∧ (∀ y, (s.writeLevel).span y = s.span y) ∧
    (∀ y, (s.writeLevel).spanSettings y = s.spanSettings y) ∧
    (∀ y, (s.writeLevel).spanProfile y = s.spanProfile y) ∧ (∀ x, (s.writeLevel).profile x = s.profile x) ∧
    (∀ x, (s.writeLevel).circuitNumber x = s.circuitNumber x) ∧
    (∀ x, (s.writeLevel).equipped x = s.equipped x) ∧ (s.writeLevel).ring = s.ring ∧
    (∀ z, (s.writeLevel).locate z = s.locate z) ∧ (∀ y, (s.writeLevel).failed y = s.failed y) ∧
    (∀ y, (s.writeLevel).failedDefault y = s.failedDefault y) ∧
    (∀ h, (s.writeLevel).huntSlot h = s.huntSlot h) ∧
    (∀ x e, (s.writeLevel).sendingCode x e = s.sendingCode x e) ∧
    (∀ x p, (s.writeLevel).timerValue x p = s.timerValue x p) ∧
    (∀ x p, (s.writeLevel).startTimer x p = s.startTimer x p) ∧ (∀ w, (s.writeLevel).report w = s.report w) ∧
    (∀ x, (s.writeLevel).eligible x = s.eligible x) ∧ (s.writeLevel).eligibleCount = s.eligibleCount ∧
    (∀ x, (s.writeLevel).controlled x = s.controlled x) :=
  ⟨fun x => s.circuit_congr x _ (by simp), fun y => s.span_congr y _ (by simp),
    fun y => s.spanSettings_congr y _ (by simp), fun y => s.spanProfile_congr y _ (by simp),
    fun x => s.profile_congr x _ (by simp), fun x => s.circuitNumber_congr x _ (by simp),
    fun x => s.equipped_congr x _ (by simp), s.ring_congr _ (by simp), fun z => s.locate_congr z _ (by simp),
    fun y => s.failed_congr y _ (by simp), fun y => s.failedDefault_congr y _ (by simp) (by simp),
    fun h => s.huntSlot_congr h _ (by simp), fun x e => s.sendingCode_congr x e _ (by simp) (by simp),
    fun x p => s.timerValue_congr x p _ (by simp), fun x p => s.startTimer_congr x p _ (by simp) (by simp),
    fun w => s.report_congr w _ (by simp), fun x => s.eligible_congr x _ (by simp) (by simp),
    s.eligibleCount_congr _ (by simp) (by simp), fun x => s.controlled_congr x _ (by simp)⟩

/-- Values that `recount` leaves as they are. -/
@[simp] theorem State.recount_reads  :
    (∀ x, (s.recount).circuit x = s.circuit x) ∧ (∀ y, (s.recount).span y = s.span y) ∧
    (∀ y, (s.recount).spanSettings y = s.spanSettings y) ∧ (∀ y, (s.recount).spanProfile y = s.spanProfile y) ∧
    (∀ x, (s.recount).profile x = s.profile x) ∧ (∀ x, (s.recount).circuitNumber x = s.circuitNumber x) ∧
    (∀ x, (s.recount).equipped x = s.equipped x) ∧ (s.recount).ring = s.ring ∧
    (∀ z, (s.recount).locate z = s.locate z) ∧ (∀ y, (s.recount).failed y = s.failed y) ∧
    (∀ y, (s.recount).failedDefault y = s.failedDefault y) ∧
    (∀ x e, (s.recount).sendingCode x e = s.sendingCode x e) ∧
    (∀ x p, (s.recount).timerValue x p = s.timerValue x p) ∧
    (∀ x p, (s.recount).startTimer x p = s.startTimer x p) ∧ (∀ w, (s.recount).report w = s.report w) ∧
    (∀ x, (s.recount).eligible x = s.eligible x) ∧ (s.recount).eligibleCount = s.eligibleCount ∧
    (∀ x, (s.recount).controlled x = s.controlled x) :=
  ⟨fun x => s.circuit_congr x _ (by simp), fun y => s.span_congr y _ (by simp),
    fun y => s.spanSettings_congr y _ (by simp), fun y => s.spanProfile_congr y _ (by simp),
    fun x => s.profile_congr x _ (by simp), fun x => s.circuitNumber_congr x _ (by simp),
    fun x => s.equipped_congr x _ (by simp), s.ring_congr _ (by simp), fun z => s.locate_congr z _ (by simp),
    fun y => s.failed_congr y _ (by simp), fun y => s.failedDefault_congr y _ (by simp) (by simp),
    fun x e => s.sendingCode_congr x e _ (by simp) (by simp), fun x p => s.timerValue_congr x p _ (by simp),
    fun x p => s.startTimer_congr x p _ (by simp) (by simp), fun w => s.report_congr w _ (by simp),
    fun x => s.eligible_congr x _ (by simp) (by simp), s.eligibleCount_congr _ (by simp) (by simp),
    fun x => s.controlled_congr x _ (by simp)⟩

/-- Values that `quiesceTest` leaves as they are. -/
@[simp] theorem State.quiesceTest_reads (sp : SpanIx) :
    (∀ x, (s.quiesceTest sp).circuit x = s.circuit x) ∧
    (∀ y, (s.quiesceTest sp).spanSettings y = s.spanSettings y) ∧
    (∀ y, (s.quiesceTest sp).spanProfile y = s.spanProfile y) ∧
    (∀ x, (s.quiesceTest sp).profile x = s.profile x) ∧
    (∀ x, (s.quiesceTest sp).circuitNumber x = s.circuitNumber x) ∧
    (∀ x, (s.quiesceTest sp).equipped x = s.equipped x) ∧ (s.quiesceTest sp).ring = s.ring ∧
    (∀ z, (s.quiesceTest sp).locate z = s.locate z) ∧
    (∀ x p, (s.quiesceTest sp).timerValue x p = s.timerValue x p) ∧
    (∀ w, (s.quiesceTest sp).report w = s.report w) ∧ (∀ x, (s.quiesceTest sp).controlled x = s.controlled x) :=
  ⟨fun x => s.circuit_congr x _ (by simp), fun y => s.spanSettings_congr y _ (by simp),
    fun y => s.spanProfile_congr y _ (by simp), fun x => s.profile_congr x _ (by simp),
    fun x => s.circuitNumber_congr x _ (by simp), fun x => s.equipped_congr x _ (by simp),
    s.ring_congr _ (by simp), fun z => s.locate_congr z _ (by simp),
    fun x p => s.timerValue_congr x p _ (by simp), fun w => s.report_congr w _ (by simp),
    fun x => s.controlled_congr x _ (by simp)⟩

/-- Values that `settle` leaves as they are. -/
@[simp] theorem State.settle_reads (slot : Slot) (c : Circuit) :
    (∀ x, (s.settle slot c).circuit x = s.circuit x) ∧
    (∀ y, (s.settle slot c).spanSettings y = s.spanSettings y) ∧
    (∀ y, (s.settle slot c).spanProfile y = s.spanProfile y) ∧
    (∀ x, (s.settle slot c).profile x = s.profile x) ∧
    (∀ x, (s.settle slot c).circuitNumber x = s.circuitNumber x) ∧
    (∀ x, (s.settle slot c).equipped x = s.equipped x) ∧ (s.settle slot c).ring = s.ring ∧
    (∀ z, (s.settle slot c).locate z = s.locate z) ∧
    (∀ x p, (s.settle slot c).timerValue x p = s.timerValue x p) ∧
    (∀ w, (s.settle slot c).report w = s.report w) ∧ (∀ x, (s.settle slot c).controlled x = s.controlled x) :=
  ⟨fun x => s.circuit_congr x _ (by simp), fun y => s.spanSettings_congr y _ (by simp),
    fun y => s.spanProfile_congr y _ (by simp), fun x => s.profile_congr x _ (by simp),
    fun x => s.circuitNumber_congr x _ (by simp), fun x => s.equipped_congr x _ (by simp),
    s.ring_congr _ (by simp), fun z => s.locate_congr z _ (by simp),
    fun x p => s.timerValue_congr x p _ (by simp), fun w => s.report_congr w _ (by simp),
    fun x => s.controlled_congr x _ (by simp)⟩

/-- Values that `putHuntSlot` leaves as they are. -/
@[simp] theorem State.putHuntSlot_reads (ix : HuntIx) (h : HuntSlot) :
    (∀ x, (s.putHuntSlot ix h).circuit x = s.circuit x) ∧ (∀ y, (s.putHuntSlot ix h).span y = s.span y) ∧
    (∀ y, (s.putHuntSlot ix h).spanSettings y = s.spanSettings y) ∧
    (∀ y, (s.putHuntSlot ix h).spanProfile y = s.spanProfile y) ∧
    (∀ x, (s.putHuntSlot ix h).profile x = s.profile x) ∧
    (∀ x, (s.putHuntSlot ix h).circuitNumber x = s.circuitNumber x) ∧
    (∀ x, (s.putHuntSlot ix h).equipped x = s.equipped x) ∧ (s.putHuntSlot ix h).ring = s.ring ∧
    (∀ z, (s.putHuntSlot ix h).locate z = s.locate z) ∧ (∀ y, (s.putHuntSlot ix h).failed y = s.failed y) ∧
    (∀ y, (s.putHuntSlot ix h).failedDefault y = s.failedDefault y) ∧
    (∀ x e, (s.putHuntSlot ix h).sendingCode x e = s.sendingCode x e) ∧
    (∀ x p, (s.putHuntSlot ix h).timerValue x p = s.timerValue x p) ∧
    (∀ x p, (s.putHuntSlot ix h).startTimer x p = s.startTimer x p) ∧
    (∀ w, (s.putHuntSlot ix h).report w = s.report w) ∧ (∀ x, (s.putHuntSlot ix h).eligible x = s.eligible x) ∧
    (s.putHuntSlot ix h).eligibleCount = s.eligibleCount ∧
    (∀ x, (s.putHuntSlot ix h).controlled x = s.controlled x) :=
  ⟨fun x => s.circuit_congr x _ (by simp), fun y => s.span_congr y _ (by simp),
    fun y => s.spanSettings_congr y _ (by simp), fun y => s.spanProfile_congr y _ (by simp),
    fun x => s.profile_congr x _ (by simp), fun x => s.circuitNumber_congr x _ (by simp),
    fun x => s.equipped_congr x _ (by simp), s.ring_congr _ (by simp), fun z => s.locate_congr z _ (by simp),
    fun y => s.failed_congr y _ (by simp), fun y => s.failedDefault_congr y _ (by simp) (by simp),
    fun x e => s.sendingCode_congr x e _ (by simp) (by simp), fun x p => s.timerValue_congr x p _ (by simp),
    fun x p => s.startTimer_congr x p _ (by simp) (by simp), fun w => s.report_congr w _ (by simp),
    fun x => s.eligible_congr x _ (by simp) (by simp), s.eligibleCount_congr _ (by simp) (by simp),
    fun x => s.controlled_congr x _ (by simp)⟩

/-- Values that `endSlot` leaves as they are. -/
@[simp] theorem State.endSlot_reads (ix : HuntIx) (r : Reference) (rep : Report) :
    (∀ x, (s.endSlot ix r rep).circuit x = s.circuit x) ∧ (∀ y, (s.endSlot ix r rep).span y = s.span y) ∧
    (∀ y, (s.endSlot ix r rep).spanSettings y = s.spanSettings y) ∧
    (∀ y, (s.endSlot ix r rep).spanProfile y = s.spanProfile y) ∧
    (∀ x, (s.endSlot ix r rep).profile x = s.profile x) ∧
    (∀ x, (s.endSlot ix r rep).circuitNumber x = s.circuitNumber x) ∧
    (∀ x, (s.endSlot ix r rep).equipped x = s.equipped x) ∧ (s.endSlot ix r rep).ring = s.ring ∧
    (∀ z, (s.endSlot ix r rep).locate z = s.locate z) ∧ (∀ y, (s.endSlot ix r rep).failed y = s.failed y) ∧
    (∀ y, (s.endSlot ix r rep).failedDefault y = s.failedDefault y) ∧
    (∀ x e, (s.endSlot ix r rep).sendingCode x e = s.sendingCode x e) ∧
    (∀ x p, (s.endSlot ix r rep).timerValue x p = s.timerValue x p) ∧
    (∀ x p, (s.endSlot ix r rep).startTimer x p = s.startTimer x p) ∧
    (∀ w, (s.endSlot ix r rep).report w = s.report w) ∧ (∀ x, (s.endSlot ix r rep).eligible x = s.eligible x) ∧
    (s.endSlot ix r rep).eligibleCount = s.eligibleCount ∧
    (∀ x, (s.endSlot ix r rep).controlled x = s.controlled x) :=
  ⟨fun x => s.circuit_congr x _ (by simp), fun y => s.span_congr y _ (by simp),
    fun y => s.spanSettings_congr y _ (by simp), fun y => s.spanProfile_congr y _ (by simp),
    fun x => s.profile_congr x _ (by simp), fun x => s.circuitNumber_congr x _ (by simp),
    fun x => s.equipped_congr x _ (by simp), s.ring_congr _ (by simp), fun z => s.locate_congr z _ (by simp),
    fun y => s.failed_congr y _ (by simp), fun y => s.failedDefault_congr y _ (by simp) (by simp),
    fun x e => s.sendingCode_congr x e _ (by simp) (by simp), fun x p => s.timerValue_congr x p _ (by simp),
    fun x p => s.startTimer_congr x p _ (by simp) (by simp), fun w => s.report_congr w _ (by simp),
    fun x => s.eligible_congr x _ (by simp) (by simp), s.eligibleCount_congr _ (by simp) (by simp),
    fun x => s.controlled_congr x _ (by simp)⟩

/-- Values that `dropBound` leaves as they are. -/
@[simp] theorem State.dropBound_reads (slot : Slot) (n : Nat) :
    (∀ x, (s.dropBound slot n).circuit x = s.circuit x) ∧ (∀ y, (s.dropBound slot n).span y = s.span y) ∧
    (∀ y, (s.dropBound slot n).spanSettings y = s.spanSettings y) ∧
    (∀ y, (s.dropBound slot n).spanProfile y = s.spanProfile y) ∧
    (∀ x, (s.dropBound slot n).profile x = s.profile x) ∧
    (∀ x, (s.dropBound slot n).circuitNumber x = s.circuitNumber x) ∧
    (∀ x, (s.dropBound slot n).equipped x = s.equipped x) ∧ (s.dropBound slot n).ring = s.ring ∧
    (∀ z, (s.dropBound slot n).locate z = s.locate z) ∧ (∀ y, (s.dropBound slot n).failed y = s.failed y) ∧
    (∀ y, (s.dropBound slot n).failedDefault y = s.failedDefault y) ∧
    (∀ x e, (s.dropBound slot n).sendingCode x e = s.sendingCode x e) ∧
    (∀ x p, (s.dropBound slot n).timerValue x p = s.timerValue x p) ∧
    (∀ x p, (s.dropBound slot n).startTimer x p = s.startTimer x p) ∧
    (∀ w, (s.dropBound slot n).report w = s.report w) ∧ (∀ x, (s.dropBound slot n).eligible x = s.eligible x) ∧
    (s.dropBound slot n).eligibleCount = s.eligibleCount ∧
    (∀ x, (s.dropBound slot n).controlled x = s.controlled x) :=
  ⟨fun x => s.circuit_congr x _ (by simp), fun y => s.span_congr y _ (by simp),
    fun y => s.spanSettings_congr y _ (by simp), fun y => s.spanProfile_congr y _ (by simp),
    fun x => s.profile_congr x _ (by simp), fun x => s.circuitNumber_congr x _ (by simp),
    fun x => s.equipped_congr x _ (by simp), s.ring_congr _ (by simp), fun z => s.locate_congr z _ (by simp),
    fun y => s.failed_congr y _ (by simp), fun y => s.failedDefault_congr y _ (by simp) (by simp),
    fun x e => s.sendingCode_congr x e _ (by simp) (by simp), fun x p => s.timerValue_congr x p _ (by simp),
    fun x p => s.startTimer_congr x p _ (by simp) (by simp), fun w => s.report_congr w _ (by simp),
    fun x => s.eligible_congr x _ (by simp) (by simp), s.eligibleCount_congr _ (by simp) (by simp),
    fun x => s.controlled_congr x _ (by simp)⟩

/-- Values that `clearForward` leaves as they are. -/
@[simp] theorem State.clearForward_reads (slot : Slot) (n : Nat) :
    (∀ y, (s.clearForward slot n).span y = s.span y) ∧
    (∀ y, (s.clearForward slot n).spanSettings y = s.spanSettings y) ∧
    (∀ y, (s.clearForward slot n).spanProfile y = s.spanProfile y) ∧
    (∀ x, (s.clearForward slot n).profile x = s.profile x) ∧
    (∀ x, (s.clearForward slot n).circuitNumber x = s.circuitNumber x) ∧
    (∀ x, (s.clearForward slot n).equipped x = s.equipped x) ∧ (s.clearForward slot n).ring = s.ring ∧
    (∀ z, (s.clearForward slot n).locate z = s.locate z) ∧
    (∀ y, (s.clearForward slot n).failed y = s.failed y) ∧
    (∀ y, (s.clearForward slot n).failedDefault y = s.failedDefault y) ∧
    (∀ x e, (s.clearForward slot n).sendingCode x e = s.sendingCode x e) ∧
    (∀ x p, (s.clearForward slot n).timerValue x p = s.timerValue x p) ∧
    (∀ x p, (s.clearForward slot n).startTimer x p = s.startTimer x p) ∧
    (∀ w, (s.clearForward slot n).report w = s.report w) ∧
    (∀ x, (s.clearForward slot n).controlled x = s.controlled x) :=
  ⟨fun y => s.span_congr y _ (by simp), fun y => s.spanSettings_congr y _ (by simp),
    fun y => s.spanProfile_congr y _ (by simp), fun x => s.profile_congr x _ (by simp),
    fun x => s.circuitNumber_congr x _ (by simp), fun x => s.equipped_congr x _ (by simp),
    s.ring_congr _ (by simp), fun z => s.locate_congr z _ (by simp), fun y => s.failed_congr y _ (by simp),
    fun y => s.failedDefault_congr y _ (by simp) (by simp),
    fun x e => s.sendingCode_congr x e _ (by simp) (by simp), fun x p => s.timerValue_congr x p _ (by simp),
    fun x p => s.startTimer_congr x p _ (by simp) (by simp), fun w => s.report_congr w _ (by simp),
    fun x => s.controlled_congr x _ (by simp)⟩

/-- Values that `failForward` leaves as they are. -/
@[simp] theorem State.failForward_reads (slot : Slot) (k : ReportKind) (n : Nat) :
    (∀ y, (s.failForward slot k n).span y = s.span y) ∧
    (∀ y, (s.failForward slot k n).spanSettings y = s.spanSettings y) ∧
    (∀ y, (s.failForward slot k n).spanProfile y = s.spanProfile y) ∧
    (∀ x, (s.failForward slot k n).profile x = s.profile x) ∧
    (∀ x, (s.failForward slot k n).circuitNumber x = s.circuitNumber x) ∧
    (∀ x, (s.failForward slot k n).equipped x = s.equipped x) ∧ (s.failForward slot k n).ring = s.ring ∧
    (∀ z, (s.failForward slot k n).locate z = s.locate z) ∧
    (∀ y, (s.failForward slot k n).failed y = s.failed y) ∧
    (∀ y, (s.failForward slot k n).failedDefault y = s.failedDefault y) ∧
    (∀ x e, (s.failForward slot k n).sendingCode x e = s.sendingCode x e) ∧
    (∀ x p, (s.failForward slot k n).timerValue x p = s.timerValue x p) ∧
    (∀ x p, (s.failForward slot k n).startTimer x p = s.startTimer x p) ∧
    (∀ w, (s.failForward slot k n).report w = s.report w) ∧
    (∀ x, (s.failForward slot k n).controlled x = s.controlled x) :=
  ⟨fun y => s.span_congr y _ (by simp), fun y => s.spanSettings_congr y _ (by simp),
    fun y => s.spanProfile_congr y _ (by simp), fun x => s.profile_congr x _ (by simp),
    fun x => s.circuitNumber_congr x _ (by simp), fun x => s.equipped_congr x _ (by simp),
    s.ring_congr _ (by simp), fun z => s.locate_congr z _ (by simp), fun y => s.failed_congr y _ (by simp),
    fun y => s.failedDefault_congr y _ (by simp) (by simp),
    fun x e => s.sendingCode_congr x e _ (by simp) (by simp), fun x p => s.timerValue_congr x p _ (by simp),
    fun x p => s.startTimer_congr x p _ (by simp) (by simp), fun w => s.report_congr w _ (by simp),
    fun x => s.controlled_congr x _ (by simp)⟩

/-- Values that `handReturn` leaves as they are. -/
@[simp] theorem State.handReturn_reads (slot : Slot) (why : ReturnReason) (q : Option Request) :
    (∀ x, (s.handReturn slot why q).circuit x = s.circuit x) ∧
    (∀ y, (s.handReturn slot why q).span y = s.span y) ∧
    (∀ y, (s.handReturn slot why q).spanSettings y = s.spanSettings y) ∧
    (∀ y, (s.handReturn slot why q).spanProfile y = s.spanProfile y) ∧
    (∀ x, (s.handReturn slot why q).profile x = s.profile x) ∧
    (∀ x, (s.handReturn slot why q).circuitNumber x = s.circuitNumber x) ∧
    (∀ x, (s.handReturn slot why q).equipped x = s.equipped x) ∧ (s.handReturn slot why q).ring = s.ring ∧
    (∀ z, (s.handReturn slot why q).locate z = s.locate z) ∧
    (∀ y, (s.handReturn slot why q).failed y = s.failed y) ∧
    (∀ y, (s.handReturn slot why q).failedDefault y = s.failedDefault y) ∧
    (∀ x e, (s.handReturn slot why q).sendingCode x e = s.sendingCode x e) ∧
    (∀ x p, (s.handReturn slot why q).timerValue x p = s.timerValue x p) ∧
    (∀ x p, (s.handReturn slot why q).startTimer x p = s.startTimer x p) ∧
    (∀ w, (s.handReturn slot why q).report w = s.report w) ∧
    (∀ x, (s.handReturn slot why q).eligible x = s.eligible x) ∧
    (s.handReturn slot why q).eligibleCount = s.eligibleCount ∧
    (∀ x, (s.handReturn slot why q).controlled x = s.controlled x) :=
  ⟨fun x => s.circuit_congr x _ (by simp), fun y => s.span_congr y _ (by simp),
    fun y => s.spanSettings_congr y _ (by simp), fun y => s.spanProfile_congr y _ (by simp),
    fun x => s.profile_congr x _ (by simp), fun x => s.circuitNumber_congr x _ (by simp),
    fun x => s.equipped_congr x _ (by simp), s.ring_congr _ (by simp), fun z => s.locate_congr z _ (by simp),
    fun y => s.failed_congr y _ (by simp), fun y => s.failedDefault_congr y _ (by simp) (by simp),
    fun x e => s.sendingCode_congr x e _ (by simp) (by simp), fun x p => s.timerValue_congr x p _ (by simp),
    fun x p => s.startTimer_congr x p _ (by simp) (by simp), fun w => s.report_congr w _ (by simp),
    fun x => s.eligible_congr x _ (by simp) (by simp), s.eligibleCount_congr _ (by simp) (by simp),
    fun x => s.controlled_congr x _ (by simp)⟩

/-- Values that `reply` leaves as they are. -/
@[simp] theorem State.reply_reads (st : Status) (b : ReplyBody) :
    (∀ x, (s.reply st b).circuit x = s.circuit x) ∧ (∀ y, (s.reply st b).span y = s.span y) ∧
    (∀ y, (s.reply st b).spanSettings y = s.spanSettings y) ∧
    (∀ y, (s.reply st b).spanProfile y = s.spanProfile y) ∧ (∀ x, (s.reply st b).profile x = s.profile x) ∧
    (∀ x, (s.reply st b).circuitNumber x = s.circuitNumber x) ∧
    (∀ x, (s.reply st b).equipped x = s.equipped x) ∧ (s.reply st b).ring = s.ring ∧
    (∀ z, (s.reply st b).locate z = s.locate z) ∧ (∀ y, (s.reply st b).failed y = s.failed y) ∧
    (∀ y, (s.reply st b).failedDefault y = s.failedDefault y) ∧
    (∀ h, (s.reply st b).huntSlot h = s.huntSlot h) ∧
    (∀ x e, (s.reply st b).sendingCode x e = s.sendingCode x e) ∧
    (∀ x p, (s.reply st b).timerValue x p = s.timerValue x p) ∧
    (∀ x p, (s.reply st b).startTimer x p = s.startTimer x p) ∧ (∀ w, (s.reply st b).report w = s.report w) ∧
    (∀ x, (s.reply st b).eligible x = s.eligible x) ∧ (s.reply st b).eligibleCount = s.eligibleCount ∧
    (∀ x, (s.reply st b).controlled x = s.controlled x) :=
  ⟨fun x => s.circuit_congr x _ (by simp), fun y => s.span_congr y _ (by simp),
    fun y => s.spanSettings_congr y _ (by simp), fun y => s.spanProfile_congr y _ (by simp),
    fun x => s.profile_congr x _ (by simp), fun x => s.circuitNumber_congr x _ (by simp),
    fun x => s.equipped_congr x _ (by simp), s.ring_congr _ (by simp), fun z => s.locate_congr z _ (by simp),
    fun y => s.failed_congr y _ (by simp), fun y => s.failedDefault_congr y _ (by simp) (by simp),
    fun h => s.huntSlot_congr h _ (by simp), fun x e => s.sendingCode_congr x e _ (by simp) (by simp),
    fun x p => s.timerValue_congr x p _ (by simp), fun x p => s.startTimer_congr x p _ (by simp) (by simp),
    fun w => s.report_congr w _ (by simp), fun x => s.eligible_congr x _ (by simp) (by simp),
    s.eligibleCount_congr _ (by simp) (by simp), fun x => s.controlled_congr x _ (by simp)⟩

/-- Values that `replyPhase` leaves as they are. -/
@[simp] theorem State.replyPhase_reads (st : Status) (slot : Slot) :
    (∀ x, (s.replyPhase st slot).circuit x = s.circuit x) ∧ (∀ y, (s.replyPhase st slot).span y = s.span y) ∧
    (∀ y, (s.replyPhase st slot).spanSettings y = s.spanSettings y) ∧
    (∀ y, (s.replyPhase st slot).spanProfile y = s.spanProfile y) ∧
    (∀ x, (s.replyPhase st slot).profile x = s.profile x) ∧
    (∀ x, (s.replyPhase st slot).circuitNumber x = s.circuitNumber x) ∧
    (∀ x, (s.replyPhase st slot).equipped x = s.equipped x) ∧ (s.replyPhase st slot).ring = s.ring ∧
    (∀ z, (s.replyPhase st slot).locate z = s.locate z) ∧ (∀ y, (s.replyPhase st slot).failed y = s.failed y) ∧
    (∀ y, (s.replyPhase st slot).failedDefault y = s.failedDefault y) ∧
    (∀ h, (s.replyPhase st slot).huntSlot h = s.huntSlot h) ∧
    (∀ x e, (s.replyPhase st slot).sendingCode x e = s.sendingCode x e) ∧
    (∀ x p, (s.replyPhase st slot).timerValue x p = s.timerValue x p) ∧
    (∀ x p, (s.replyPhase st slot).startTimer x p = s.startTimer x p) ∧
    (∀ w, (s.replyPhase st slot).report w = s.report w) ∧
    (∀ x, (s.replyPhase st slot).eligible x = s.eligible x) ∧
    (s.replyPhase st slot).eligibleCount = s.eligibleCount ∧
    (∀ x, (s.replyPhase st slot).controlled x = s.controlled x) :=
  ⟨fun x => s.circuit_congr x _ (by simp), fun y => s.span_congr y _ (by simp),
    fun y => s.spanSettings_congr y _ (by simp), fun y => s.spanProfile_congr y _ (by simp),
    fun x => s.profile_congr x _ (by simp), fun x => s.circuitNumber_congr x _ (by simp),
    fun x => s.equipped_congr x _ (by simp), s.ring_congr _ (by simp), fun z => s.locate_congr z _ (by simp),
    fun y => s.failed_congr y _ (by simp), fun y => s.failedDefault_congr y _ (by simp) (by simp),
    fun h => s.huntSlot_congr h _ (by simp), fun x e => s.sendingCode_congr x e _ (by simp) (by simp),
    fun x p => s.timerValue_congr x p _ (by simp), fun x p => s.startTimer_congr x p _ (by simp) (by simp),
    fun w => s.report_congr w _ (by simp), fun x => s.eligible_congr x _ (by simp) (by simp),
    s.eligibleCount_congr _ (by simp) (by simp), fun x => s.controlled_congr x _ (by simp)⟩

/-- Values that `refuse` leaves as they are. -/
@[simp] theorem State.refuse_reads (st : Status) :
    (∀ x, (s.refuse st).circuit x = s.circuit x) ∧ (∀ y, (s.refuse st).span y = s.span y) ∧
    (∀ y, (s.refuse st).spanSettings y = s.spanSettings y) ∧
    (∀ y, (s.refuse st).spanProfile y = s.spanProfile y) ∧ (∀ x, (s.refuse st).profile x = s.profile x) ∧
    (∀ x, (s.refuse st).circuitNumber x = s.circuitNumber x) ∧ (∀ x, (s.refuse st).equipped x = s.equipped x) ∧
    (s.refuse st).ring = s.ring ∧ (∀ z, (s.refuse st).locate z = s.locate z) ∧
    (∀ y, (s.refuse st).failed y = s.failed y) ∧ (∀ y, (s.refuse st).failedDefault y = s.failedDefault y) ∧
    (∀ h, (s.refuse st).huntSlot h = s.huntSlot h) ∧
    (∀ x e, (s.refuse st).sendingCode x e = s.sendingCode x e) ∧
    (∀ x p, (s.refuse st).timerValue x p = s.timerValue x p) ∧
    (∀ x p, (s.refuse st).startTimer x p = s.startTimer x p) ∧ (∀ w, (s.refuse st).report w = s.report w) ∧
    (∀ x, (s.refuse st).eligible x = s.eligible x) ∧ (s.refuse st).eligibleCount = s.eligibleCount ∧
    (∀ x, (s.refuse st).controlled x = s.controlled x) :=
  ⟨fun x => s.circuit_congr x _ (by simp), fun y => s.span_congr y _ (by simp),
    fun y => s.spanSettings_congr y _ (by simp), fun y => s.spanProfile_congr y _ (by simp),
    fun x => s.profile_congr x _ (by simp), fun x => s.circuitNumber_congr x _ (by simp),
    fun x => s.equipped_congr x _ (by simp), s.ring_congr _ (by simp), fun z => s.locate_congr z _ (by simp),
    fun y => s.failed_congr y _ (by simp), fun y => s.failedDefault_congr y _ (by simp) (by simp),
    fun h => s.huntSlot_congr h _ (by simp), fun x e => s.sendingCode_congr x e _ (by simp) (by simp),
    fun x p => s.timerValue_congr x p _ (by simp), fun x p => s.startTimer_congr x p _ (by simp) (by simp),
    fun w => s.report_congr w _ (by simp), fun x => s.eligible_congr x _ (by simp) (by simp),
    s.eligibleCount_congr _ (by simp) (by simp), fun x => s.controlled_congr x _ (by simp)⟩

/-- Values that `deliver` leaves as they are. -/
@[simp] theorem State.deliver_reads (f : Slot → Option Code) (g : SpanIx → Bool) :
    (∀ x, (s.deliver f g).circuit x = s.circuit x) ∧ (∀ y, (s.deliver f g).span y = s.span y) ∧
    (∀ y, (s.deliver f g).spanSettings y = s.spanSettings y) ∧
    (∀ y, (s.deliver f g).spanProfile y = s.spanProfile y) ∧ (∀ x, (s.deliver f g).profile x = s.profile x) ∧
    (∀ x, (s.deliver f g).circuitNumber x = s.circuitNumber x) ∧
    (∀ x, (s.deliver f g).equipped x = s.equipped x) ∧ (s.deliver f g).ring = s.ring ∧
    (∀ z, (s.deliver f g).locate z = s.locate z) ∧ (∀ y, (s.deliver f g).failed y = s.failed y) ∧
    (∀ y, (s.deliver f g).failedDefault y = s.failedDefault y) ∧
    (∀ h, (s.deliver f g).huntSlot h = s.huntSlot h) ∧
    (∀ x e, (s.deliver f g).sendingCode x e = s.sendingCode x e) ∧
    (∀ x p, (s.deliver f g).timerValue x p = s.timerValue x p) ∧
    (∀ x p, (s.deliver f g).startTimer x p = s.startTimer x p) ∧ (∀ w, (s.deliver f g).report w = s.report w) ∧
    (∀ x, (s.deliver f g).eligible x = s.eligible x) ∧ (s.deliver f g).eligibleCount = s.eligibleCount ∧
    (∀ x, (s.deliver f g).controlled x = s.controlled x) :=
  ⟨fun x => s.circuit_congr x _ (by simp), fun y => s.span_congr y _ (by simp),
    fun y => s.spanSettings_congr y _ (by simp), fun y => s.spanProfile_congr y _ (by simp),
    fun x => s.profile_congr x _ (by simp), fun x => s.circuitNumber_congr x _ (by simp),
    fun x => s.equipped_congr x _ (by simp), s.ring_congr _ (by simp), fun z => s.locate_congr z _ (by simp),
    fun y => s.failed_congr y _ (by simp), fun y => s.failedDefault_congr y _ (by simp) (by simp),
    fun h => s.huntSlot_congr h _ (by simp), fun x e => s.sendingCode_congr x e _ (by simp) (by simp),
    fun x p => s.timerValue_congr x p _ (by simp), fun x p => s.startTimer_congr x p _ (by simp) (by simp),
    fun w => s.report_congr w _ (by simp), fun x => s.eligible_congr x _ (by simp) (by simp),
    s.eligibleCount_congr _ (by simp) (by simp), fun x => s.controlled_congr x _ (by simp)⟩

/-- Values that `substitute` leaves as they are. -/
@[simp] theorem State.substitute_reads  :
    (∀ x, (s.substitute).circuit x = s.circuit x) ∧ (∀ y, (s.substitute).span y = s.span y) ∧
    (∀ y, (s.substitute).spanSettings y = s.spanSettings y) ∧
    (∀ y, (s.substitute).spanProfile y = s.spanProfile y) ∧ (∀ x, (s.substitute).profile x = s.profile x) ∧
    (∀ x, (s.substitute).circuitNumber x = s.circuitNumber x) ∧
    (∀ x, (s.substitute).equipped x = s.equipped x) ∧ (s.substitute).ring = s.ring ∧
    (∀ z, (s.substitute).locate z = s.locate z) ∧ (∀ y, (s.substitute).failed y = s.failed y) ∧
    (∀ y, (s.substitute).failedDefault y = s.failedDefault y) ∧
    (∀ h, (s.substitute).huntSlot h = s.huntSlot h) ∧
    (∀ x e, (s.substitute).sendingCode x e = s.sendingCode x e) ∧
    (∀ x p, (s.substitute).timerValue x p = s.timerValue x p) ∧
    (∀ x p, (s.substitute).startTimer x p = s.startTimer x p) ∧ (∀ w, (s.substitute).report w = s.report w) ∧
    (∀ x, (s.substitute).eligible x = s.eligible x) ∧ (s.substitute).eligibleCount = s.eligibleCount ∧
    (∀ x, (s.substitute).controlled x = s.controlled x) :=
  ⟨fun x => s.circuit_congr x _ (by simp), fun y => s.span_congr y _ (by simp),
    fun y => s.spanSettings_congr y _ (by simp), fun y => s.spanProfile_congr y _ (by simp),
    fun x => s.profile_congr x _ (by simp), fun x => s.circuitNumber_congr x _ (by simp),
    fun x => s.equipped_congr x _ (by simp), s.ring_congr _ (by simp), fun z => s.locate_congr z _ (by simp),
    fun y => s.failed_congr y _ (by simp), fun y => s.failedDefault_congr y _ (by simp) (by simp),
    fun h => s.huntSlot_congr h _ (by simp), fun x e => s.sendingCode_congr x e _ (by simp) (by simp),
    fun x p => s.timerValue_congr x p _ (by simp), fun x p => s.startTimer_congr x p _ (by simp) (by simp),
    fun w => s.report_congr w _ (by simp), fun x => s.eligible_congr x _ (by simp) (by simp),
    s.eligibleCount_congr _ (by simp) (by simp), fun x => s.controlled_congr x _ (by simp)⟩

/-- Values that `addEntry` leaves as they are. -/
@[simp] theorem State.addEntry_reads (entry : OfferEntry) :
    (∀ x, (s.addEntry entry).circuit x = s.circuit x) ∧ (∀ y, (s.addEntry entry).span y = s.span y) ∧
    (∀ y, (s.addEntry entry).spanSettings y = s.spanSettings y) ∧
    (∀ y, (s.addEntry entry).spanProfile y = s.spanProfile y) ∧
    (∀ x, (s.addEntry entry).profile x = s.profile x) ∧
    (∀ x, (s.addEntry entry).circuitNumber x = s.circuitNumber x) ∧
    (∀ x, (s.addEntry entry).equipped x = s.equipped x) ∧ (s.addEntry entry).ring = s.ring ∧
    (∀ z, (s.addEntry entry).locate z = s.locate z) ∧ (∀ y, (s.addEntry entry).failed y = s.failed y) ∧
    (∀ y, (s.addEntry entry).failedDefault y = s.failedDefault y) ∧
    (∀ h, (s.addEntry entry).huntSlot h = s.huntSlot h) ∧
    (∀ x e, (s.addEntry entry).sendingCode x e = s.sendingCode x e) ∧
    (∀ x p, (s.addEntry entry).timerValue x p = s.timerValue x p) ∧
    (∀ x p, (s.addEntry entry).startTimer x p = s.startTimer x p) ∧
    (∀ w, (s.addEntry entry).report w = s.report w) ∧ (∀ x, (s.addEntry entry).eligible x = s.eligible x) ∧
    (s.addEntry entry).eligibleCount = s.eligibleCount ∧
    (∀ x, (s.addEntry entry).controlled x = s.controlled x) :=
  ⟨fun x => s.circuit_congr x _ (by simp), fun y => s.span_congr y _ (by simp),
    fun y => s.spanSettings_congr y _ (by simp), fun y => s.spanProfile_congr y _ (by simp),
    fun x => s.profile_congr x _ (by simp), fun x => s.circuitNumber_congr x _ (by simp),
    fun x => s.equipped_congr x _ (by simp), s.ring_congr _ (by simp), fun z => s.locate_congr z _ (by simp),
    fun y => s.failed_congr y _ (by simp), fun y => s.failedDefault_congr y _ (by simp) (by simp),
    fun h => s.huntSlot_congr h _ (by simp), fun x e => s.sendingCode_congr x e _ (by simp) (by simp),
    fun x p => s.timerValue_congr x p _ (by simp), fun x p => s.startTimer_congr x p _ (by simp) (by simp),
    fun w => s.report_congr w _ (by simp), fun x => s.eligible_congr x _ (by simp) (by simp),
    s.eligibleCount_congr _ (by simp) (by simp), fun x => s.controlled_congr x _ (by simp)⟩

/-- Values that `updateEntry` leaves as they are. -/
@[simp] theorem State.updateEntry_reads (entry : OfferEntry) :
    (∀ x, (s.updateEntry entry).circuit x = s.circuit x) ∧ (∀ y, (s.updateEntry entry).span y = s.span y) ∧
    (∀ y, (s.updateEntry entry).spanSettings y = s.spanSettings y) ∧
    (∀ y, (s.updateEntry entry).spanProfile y = s.spanProfile y) ∧
    (∀ x, (s.updateEntry entry).profile x = s.profile x) ∧
    (∀ x, (s.updateEntry entry).circuitNumber x = s.circuitNumber x) ∧
    (∀ x, (s.updateEntry entry).equipped x = s.equipped x) ∧ (s.updateEntry entry).ring = s.ring ∧
    (∀ z, (s.updateEntry entry).locate z = s.locate z) ∧ (∀ y, (s.updateEntry entry).failed y = s.failed y) ∧
    (∀ y, (s.updateEntry entry).failedDefault y = s.failedDefault y) ∧
    (∀ h, (s.updateEntry entry).huntSlot h = s.huntSlot h) ∧
    (∀ x e, (s.updateEntry entry).sendingCode x e = s.sendingCode x e) ∧
    (∀ x p, (s.updateEntry entry).timerValue x p = s.timerValue x p) ∧
    (∀ x p, (s.updateEntry entry).startTimer x p = s.startTimer x p) ∧
    (∀ w, (s.updateEntry entry).report w = s.report w) ∧
    (∀ x, (s.updateEntry entry).eligible x = s.eligible x) ∧
    (s.updateEntry entry).eligibleCount = s.eligibleCount ∧
    (∀ x, (s.updateEntry entry).controlled x = s.controlled x) :=
  ⟨fun x => s.circuit_congr x _ (by simp), fun y => s.span_congr y _ (by simp),
    fun y => s.spanSettings_congr y _ (by simp), fun y => s.spanProfile_congr y _ (by simp),
    fun x => s.profile_congr x _ (by simp), fun x => s.circuitNumber_congr x _ (by simp),
    fun x => s.equipped_congr x _ (by simp), s.ring_congr _ (by simp), fun z => s.locate_congr z _ (by simp),
    fun y => s.failed_congr y _ (by simp), fun y => s.failedDefault_congr y _ (by simp) (by simp),
    fun h => s.huntSlot_congr h _ (by simp), fun x e => s.sendingCode_congr x e _ (by simp) (by simp),
    fun x p => s.timerValue_congr x p _ (by simp), fun x p => s.startTimer_congr x p _ (by simp) (by simp),
    fun w => s.report_congr w _ (by simp), fun x => s.eligible_congr x _ (by simp) (by simp),
    s.eligibleCount_congr _ (by simp) (by simp), fun x => s.controlled_congr x _ (by simp)⟩

/-- Values that `freeEntry` leaves as they are. -/
@[simp] theorem State.freeEntry_reads (entry : OfferEntry) :
    (∀ x, (s.freeEntry entry).circuit x = s.circuit x) ∧ (∀ y, (s.freeEntry entry).span y = s.span y) ∧
    (∀ y, (s.freeEntry entry).spanSettings y = s.spanSettings y) ∧
    (∀ y, (s.freeEntry entry).spanProfile y = s.spanProfile y) ∧
    (∀ x, (s.freeEntry entry).profile x = s.profile x) ∧
    (∀ x, (s.freeEntry entry).circuitNumber x = s.circuitNumber x) ∧
    (∀ x, (s.freeEntry entry).equipped x = s.equipped x) ∧ (s.freeEntry entry).ring = s.ring ∧
    (∀ z, (s.freeEntry entry).locate z = s.locate z) ∧ (∀ y, (s.freeEntry entry).failed y = s.failed y) ∧
    (∀ y, (s.freeEntry entry).failedDefault y = s.failedDefault y) ∧
    (∀ h, (s.freeEntry entry).huntSlot h = s.huntSlot h) ∧
    (∀ x e, (s.freeEntry entry).sendingCode x e = s.sendingCode x e) ∧
    (∀ x p, (s.freeEntry entry).timerValue x p = s.timerValue x p) ∧
    (∀ x p, (s.freeEntry entry).startTimer x p = s.startTimer x p) ∧
    (∀ w, (s.freeEntry entry).report w = s.report w) ∧ (∀ x, (s.freeEntry entry).eligible x = s.eligible x) ∧
    (s.freeEntry entry).eligibleCount = s.eligibleCount ∧
    (∀ x, (s.freeEntry entry).controlled x = s.controlled x) :=
  ⟨fun x => s.circuit_congr x _ (by simp), fun y => s.span_congr y _ (by simp),
    fun y => s.spanSettings_congr y _ (by simp), fun y => s.spanProfile_congr y _ (by simp),
    fun x => s.profile_congr x _ (by simp), fun x => s.circuitNumber_congr x _ (by simp),
    fun x => s.equipped_congr x _ (by simp), s.ring_congr _ (by simp), fun z => s.locate_congr z _ (by simp),
    fun y => s.failed_congr y _ (by simp), fun y => s.failedDefault_congr y _ (by simp) (by simp),
    fun h => s.huntSlot_congr h _ (by simp), fun x e => s.sendingCode_congr x e _ (by simp) (by simp),
    fun x p => s.timerValue_congr x p _ (by simp), fun x p => s.startTimer_congr x p _ (by simp) (by simp),
    fun w => s.report_congr w _ (by simp), fun x => s.eligible_congr x _ (by simp) (by simp),
    s.eligibleCount_congr _ (by simp) (by simp), fun x => s.controlled_congr x _ (by simp)⟩

/-- Values that `endEntry` leaves as they are. -/
@[simp] theorem State.endEntry_reads (entry : OfferEntry) (rep : Report) :
    (∀ x, (s.endEntry entry rep).circuit x = s.circuit x) ∧ (∀ y, (s.endEntry entry rep).span y = s.span y) ∧
    (∀ y, (s.endEntry entry rep).spanSettings y = s.spanSettings y) ∧
    (∀ y, (s.endEntry entry rep).spanProfile y = s.spanProfile y) ∧
    (∀ x, (s.endEntry entry rep).profile x = s.profile x) ∧
    (∀ x, (s.endEntry entry rep).circuitNumber x = s.circuitNumber x) ∧
    (∀ x, (s.endEntry entry rep).equipped x = s.equipped x) ∧ (s.endEntry entry rep).ring = s.ring ∧
    (∀ z, (s.endEntry entry rep).locate z = s.locate z) ∧ (∀ y, (s.endEntry entry rep).failed y = s.failed y) ∧
    (∀ y, (s.endEntry entry rep).failedDefault y = s.failedDefault y) ∧
    (∀ x e, (s.endEntry entry rep).sendingCode x e = s.sendingCode x e) ∧
    (∀ x p, (s.endEntry entry rep).timerValue x p = s.timerValue x p) ∧
    (∀ x p, (s.endEntry entry rep).startTimer x p = s.startTimer x p) ∧
    (∀ w, (s.endEntry entry rep).report w = s.report w) ∧
    (∀ x, (s.endEntry entry rep).eligible x = s.eligible x) ∧
    (s.endEntry entry rep).eligibleCount = s.eligibleCount ∧
    (∀ x, (s.endEntry entry rep).controlled x = s.controlled x) :=
  ⟨fun x => s.circuit_congr x _ (by simp), fun y => s.span_congr y _ (by simp),
    fun y => s.spanSettings_congr y _ (by simp), fun y => s.spanProfile_congr y _ (by simp),
    fun x => s.profile_congr x _ (by simp), fun x => s.circuitNumber_congr x _ (by simp),
    fun x => s.equipped_congr x _ (by simp), s.ring_congr _ (by simp), fun z => s.locate_congr z _ (by simp),
    fun y => s.failed_congr y _ (by simp), fun y => s.failedDefault_congr y _ (by simp) (by simp),
    fun x e => s.sendingCode_congr x e _ (by simp) (by simp), fun x p => s.timerValue_congr x p _ (by simp),
    fun x p => s.startTimer_congr x p _ (by simp) (by simp), fun w => s.report_congr w _ (by simp),
    fun x => s.eligible_congr x _ (by simp) (by simp), s.eligibleCount_congr _ (by simp) (by simp),
    fun x => s.controlled_congr x _ (by simp)⟩

/-- Values that `setDispatch` leaves as they are. -/
@[simp] theorem State.setDispatch_reads (d : Option Dispatch) :
    (∀ x, (s.setDispatch d).circuit x = s.circuit x) ∧ (∀ y, (s.setDispatch d).span y = s.span y) ∧
    (∀ y, (s.setDispatch d).spanSettings y = s.spanSettings y) ∧
    (∀ y, (s.setDispatch d).spanProfile y = s.spanProfile y) ∧
    (∀ x, (s.setDispatch d).profile x = s.profile x) ∧
    (∀ x, (s.setDispatch d).circuitNumber x = s.circuitNumber x) ∧
    (∀ x, (s.setDispatch d).equipped x = s.equipped x) ∧ (s.setDispatch d).ring = s.ring ∧
    (∀ z, (s.setDispatch d).locate z = s.locate z) ∧ (∀ y, (s.setDispatch d).failed y = s.failed y) ∧
    (∀ y, (s.setDispatch d).failedDefault y = s.failedDefault y) ∧
    (∀ x e, (s.setDispatch d).sendingCode x e = s.sendingCode x e) ∧
    (∀ x p, (s.setDispatch d).timerValue x p = s.timerValue x p) ∧
    (∀ x p, (s.setDispatch d).startTimer x p = s.startTimer x p) ∧
    (∀ w, (s.setDispatch d).report w = s.report w) ∧ (∀ x, (s.setDispatch d).eligible x = s.eligible x) ∧
    (s.setDispatch d).eligibleCount = s.eligibleCount ∧
    (∀ x, (s.setDispatch d).controlled x = s.controlled x) :=
  ⟨fun x => s.circuit_congr x _ (by simp), fun y => s.span_congr y _ (by simp),
    fun y => s.spanSettings_congr y _ (by simp), fun y => s.spanProfile_congr y _ (by simp),
    fun x => s.profile_congr x _ (by simp), fun x => s.circuitNumber_congr x _ (by simp),
    fun x => s.equipped_congr x _ (by simp), s.ring_congr _ (by simp), fun z => s.locate_congr z _ (by simp),
    fun y => s.failed_congr y _ (by simp), fun y => s.failedDefault_congr y _ (by simp) (by simp),
    fun x e => s.sendingCode_congr x e _ (by simp) (by simp), fun x p => s.timerValue_congr x p _ (by simp),
    fun x p => s.startTimer_congr x p _ (by simp) (by simp), fun w => s.report_congr w _ (by simp),
    fun x => s.eligible_congr x _ (by simp) (by simp), s.eligibleCount_congr _ (by simp) (by simp),
    fun x => s.controlled_congr x _ (by simp)⟩

/-- Values that `rewrite` leaves as they are. -/
@[simp] theorem State.rewrite_reads (sel : Slot → Bool) (f : Circuit → Circuit) :
    (∀ y, (s.rewrite sel f).span y = s.span y) ∧ (∀ y, (s.rewrite sel f).spanSettings y = s.spanSettings y) ∧
    (∀ y, (s.rewrite sel f).spanProfile y = s.spanProfile y) ∧
    (∀ x, (s.rewrite sel f).profile x = s.profile x) ∧
    (∀ x, (s.rewrite sel f).circuitNumber x = s.circuitNumber x) ∧
    (∀ x, (s.rewrite sel f).equipped x = s.equipped x) ∧ (s.rewrite sel f).ring = s.ring ∧
    (∀ z, (s.rewrite sel f).locate z = s.locate z) ∧ (∀ y, (s.rewrite sel f).failed y = s.failed y) ∧
    (∀ y, (s.rewrite sel f).failedDefault y = s.failedDefault y) ∧
    (∀ h, (s.rewrite sel f).huntSlot h = s.huntSlot h) ∧
    (∀ x e, (s.rewrite sel f).sendingCode x e = s.sendingCode x e) ∧
    (∀ x p, (s.rewrite sel f).timerValue x p = s.timerValue x p) ∧
    (∀ x p, (s.rewrite sel f).startTimer x p = s.startTimer x p) ∧
    (∀ w, (s.rewrite sel f).report w = s.report w) ∧ (∀ x, (s.rewrite sel f).controlled x = s.controlled x) :=
  ⟨fun y => s.span_congr y _ (by simp), fun y => s.spanSettings_congr y _ (by simp),
    fun y => s.spanProfile_congr y _ (by simp), fun x => s.profile_congr x _ (by simp),
    fun x => s.circuitNumber_congr x _ (by simp), fun x => s.equipped_congr x _ (by simp),
    s.ring_congr _ (by simp), fun z => s.locate_congr z _ (by simp), fun y => s.failed_congr y _ (by simp),
    fun y => s.failedDefault_congr y _ (by simp) (by simp), fun h => s.huntSlot_congr h _ (by simp),
    fun x e => s.sendingCode_congr x e _ (by simp) (by simp), fun x p => s.timerValue_congr x p _ (by simp),
    fun x p => s.startTimer_congr x p _ (by simp) (by simp), fun w => s.report_congr w _ (by simp),
    fun x => s.controlled_congr x _ (by simp)⟩

/-- Values that `handActions` leaves as they are. -/
@[simp] theorem State.handActions_reads (sp : SpanIx) (k : ActionKind) :
    (∀ x, (s.handActions sp k).circuit x = s.circuit x) ∧ (∀ y, (s.handActions sp k).span y = s.span y) ∧
    (∀ y, (s.handActions sp k).spanSettings y = s.spanSettings y) ∧
    (∀ y, (s.handActions sp k).spanProfile y = s.spanProfile y) ∧
    (∀ x, (s.handActions sp k).profile x = s.profile x) ∧
    (∀ x, (s.handActions sp k).circuitNumber x = s.circuitNumber x) ∧
    (∀ x, (s.handActions sp k).equipped x = s.equipped x) ∧ (s.handActions sp k).ring = s.ring ∧
    (∀ z, (s.handActions sp k).locate z = s.locate z) ∧ (∀ y, (s.handActions sp k).failed y = s.failed y) ∧
    (∀ y, (s.handActions sp k).failedDefault y = s.failedDefault y) ∧
    (∀ h, (s.handActions sp k).huntSlot h = s.huntSlot h) ∧
    (∀ x e, (s.handActions sp k).sendingCode x e = s.sendingCode x e) ∧
    (∀ x p, (s.handActions sp k).timerValue x p = s.timerValue x p) ∧
    (∀ x p, (s.handActions sp k).startTimer x p = s.startTimer x p) ∧
    (∀ w, (s.handActions sp k).report w = s.report w) ∧ (∀ x, (s.handActions sp k).eligible x = s.eligible x) ∧
    (s.handActions sp k).eligibleCount = s.eligibleCount ∧
    (∀ x, (s.handActions sp k).controlled x = s.controlled x) :=
  ⟨fun x => s.circuit_congr x _ (by simp), fun y => s.span_congr y _ (by simp),
    fun y => s.spanSettings_congr y _ (by simp), fun y => s.spanProfile_congr y _ (by simp),
    fun x => s.profile_congr x _ (by simp), fun x => s.circuitNumber_congr x _ (by simp),
    fun x => s.equipped_congr x _ (by simp), s.ring_congr _ (by simp), fun z => s.locate_congr z _ (by simp),
    fun y => s.failed_congr y _ (by simp), fun y => s.failedDefault_congr y _ (by simp) (by simp),
    fun h => s.huntSlot_congr h _ (by simp), fun x e => s.sendingCode_congr x e _ (by simp) (by simp),
    fun x p => s.timerValue_congr x p _ (by simp), fun x p => s.startTimer_congr x p _ (by simp) (by simp),
    fun w => s.report_congr w _ (by simp), fun x => s.eligible_congr x _ (by simp) (by simp),
    s.eligibleCount_congr _ (by simp) (by simp), fun x => s.controlled_congr x _ (by simp)⟩

/-- Values that `actionTaken` leaves as they are. -/
@[simp] theorem State.actionTaken_reads (slot : Slot) :
    (∀ x, (s.actionTaken slot).circuit x = s.circuit x) ∧ (∀ y, (s.actionTaken slot).span y = s.span y) ∧
    (∀ y, (s.actionTaken slot).spanSettings y = s.spanSettings y) ∧
    (∀ y, (s.actionTaken slot).spanProfile y = s.spanProfile y) ∧
    (∀ x, (s.actionTaken slot).profile x = s.profile x) ∧
    (∀ x, (s.actionTaken slot).circuitNumber x = s.circuitNumber x) ∧
    (∀ x, (s.actionTaken slot).equipped x = s.equipped x) ∧ (s.actionTaken slot).ring = s.ring ∧
    (∀ z, (s.actionTaken slot).locate z = s.locate z) ∧ (∀ y, (s.actionTaken slot).failed y = s.failed y) ∧
    (∀ y, (s.actionTaken slot).failedDefault y = s.failedDefault y) ∧
    (∀ h, (s.actionTaken slot).huntSlot h = s.huntSlot h) ∧
    (∀ x e, (s.actionTaken slot).sendingCode x e = s.sendingCode x e) ∧
    (∀ x p, (s.actionTaken slot).timerValue x p = s.timerValue x p) ∧
    (∀ x p, (s.actionTaken slot).startTimer x p = s.startTimer x p) ∧
    (∀ w, (s.actionTaken slot).report w = s.report w) ∧ (∀ x, (s.actionTaken slot).eligible x = s.eligible x) ∧
    (s.actionTaken slot).eligibleCount = s.eligibleCount ∧
    (∀ x, (s.actionTaken slot).controlled x = s.controlled x) :=
  ⟨fun x => s.circuit_congr x _ (by simp), fun y => s.span_congr y _ (by simp),
    fun y => s.spanSettings_congr y _ (by simp), fun y => s.spanProfile_congr y _ (by simp),
    fun x => s.profile_congr x _ (by simp), fun x => s.circuitNumber_congr x _ (by simp),
    fun x => s.equipped_congr x _ (by simp), s.ring_congr _ (by simp), fun z => s.locate_congr z _ (by simp),
    fun y => s.failed_congr y _ (by simp), fun y => s.failedDefault_congr y _ (by simp) (by simp),
    fun h => s.huntSlot_congr h _ (by simp), fun x e => s.sendingCode_congr x e _ (by simp) (by simp),
    fun x p => s.timerValue_congr x p _ (by simp), fun x p => s.startTimer_congr x p _ (by simp) (by simp),
    fun w => s.report_congr w _ (by simp), fun x => s.eligible_congr x _ (by simp) (by simp),
    s.eligibleCount_congr _ (by simp) (by simp), fun x => s.controlled_congr x _ (by simp)⟩

/-- Values that `passSilence` leaves as they are. -/
@[simp] theorem State.passSilence_reads (n : Nat) :
    (∀ x, (s.passSilence n).circuit x = s.circuit x) ∧ (∀ y, (s.passSilence n).span y = s.span y) ∧
    (∀ y, (s.passSilence n).spanSettings y = s.spanSettings y) ∧
    (∀ y, (s.passSilence n).spanProfile y = s.spanProfile y) ∧
    (∀ x, (s.passSilence n).profile x = s.profile x) ∧
    (∀ x, (s.passSilence n).circuitNumber x = s.circuitNumber x) ∧
    (∀ x, (s.passSilence n).equipped x = s.equipped x) ∧ (s.passSilence n).ring = s.ring ∧
    (∀ z, (s.passSilence n).locate z = s.locate z) ∧ (∀ y, (s.passSilence n).failed y = s.failed y) ∧
    (∀ y, (s.passSilence n).failedDefault y = s.failedDefault y) ∧
    (∀ h, (s.passSilence n).huntSlot h = s.huntSlot h) ∧
    (∀ x e, (s.passSilence n).sendingCode x e = s.sendingCode x e) ∧
    (∀ x p, (s.passSilence n).timerValue x p = s.timerValue x p) ∧
    (∀ x p, (s.passSilence n).startTimer x p = s.startTimer x p) ∧
    (∀ w, (s.passSilence n).report w = s.report w) ∧ (∀ x, (s.passSilence n).eligible x = s.eligible x) ∧
    (s.passSilence n).eligibleCount = s.eligibleCount ∧
    (∀ x, (s.passSilence n).controlled x = s.controlled x) :=
  ⟨fun x => s.circuit_congr x _ (by simp), fun y => s.span_congr y _ (by simp),
    fun y => s.spanSettings_congr y _ (by simp), fun y => s.spanProfile_congr y _ (by simp),
    fun x => s.profile_congr x _ (by simp), fun x => s.circuitNumber_congr x _ (by simp),
    fun x => s.equipped_congr x _ (by simp), s.ring_congr _ (by simp), fun z => s.locate_congr z _ (by simp),
    fun y => s.failed_congr y _ (by simp), fun y => s.failedDefault_congr y _ (by simp) (by simp),
    fun h => s.huntSlot_congr h _ (by simp), fun x e => s.sendingCode_congr x e _ (by simp) (by simp),
    fun x p => s.timerValue_congr x p _ (by simp), fun x p => s.startTimer_congr x p _ (by simp) (by simp),
    fun w => s.report_congr w _ (by simp), fun x => s.eligible_congr x _ (by simp) (by simp),
    s.eligibleCount_congr _ (by simp) (by simp), fun x => s.controlled_congr x _ (by simp)⟩

/-- Values that `stuckTest` leaves as they are. -/
@[simp] theorem State.stuckTest_reads  :
    (∀ x, (s.stuckTest).circuit x = s.circuit x) ∧ (∀ y, (s.stuckTest).span y = s.span y) ∧
    (∀ y, (s.stuckTest).spanSettings y = s.spanSettings y) ∧
    (∀ y, (s.stuckTest).spanProfile y = s.spanProfile y) ∧ (∀ x, (s.stuckTest).profile x = s.profile x) ∧
    (∀ x, (s.stuckTest).circuitNumber x = s.circuitNumber x) ∧ (∀ x, (s.stuckTest).equipped x = s.equipped x) ∧
    (s.stuckTest).ring = s.ring ∧ (∀ z, (s.stuckTest).locate z = s.locate z) ∧
    (∀ y, (s.stuckTest).failed y = s.failed y) ∧ (∀ y, (s.stuckTest).failedDefault y = s.failedDefault y) ∧
    (∀ h, (s.stuckTest).huntSlot h = s.huntSlot h) ∧
    (∀ x e, (s.stuckTest).sendingCode x e = s.sendingCode x e) ∧
    (∀ x p, (s.stuckTest).timerValue x p = s.timerValue x p) ∧
    (∀ x p, (s.stuckTest).startTimer x p = s.startTimer x p) ∧ (∀ w, (s.stuckTest).report w = s.report w) ∧
    (∀ x, (s.stuckTest).eligible x = s.eligible x) ∧ (s.stuckTest).eligibleCount = s.eligibleCount ∧
    (∀ x, (s.stuckTest).controlled x = s.controlled x) :=
  ⟨fun x => s.circuit_congr x _ (by simp), fun y => s.span_congr y _ (by simp),
    fun y => s.spanSettings_congr y _ (by simp), fun y => s.spanProfile_congr y _ (by simp),
    fun x => s.profile_congr x _ (by simp), fun x => s.circuitNumber_congr x _ (by simp),
    fun x => s.equipped_congr x _ (by simp), s.ring_congr _ (by simp), fun z => s.locate_congr z _ (by simp),
    fun y => s.failed_congr y _ (by simp), fun y => s.failedDefault_congr y _ (by simp) (by simp),
    fun h => s.huntSlot_congr h _ (by simp), fun x e => s.sendingCode_congr x e _ (by simp) (by simp),
    fun x p => s.timerValue_congr x p _ (by simp), fun x p => s.startTimer_congr x p _ (by simp) (by simp),
    fun w => s.report_congr w _ (by simp), fun x => s.eligible_congr x _ (by simp) (by simp),
    s.eligibleCount_congr _ (by simp) (by simp), fun x => s.controlled_congr x _ (by simp)⟩

/-- Values that `recoveredTest` leaves as they are. -/
@[simp] theorem State.recoveredTest_reads  :
    (∀ x, (s.recoveredTest).circuit x = s.circuit x) ∧ (∀ y, (s.recoveredTest).span y = s.span y) ∧
    (∀ y, (s.recoveredTest).spanSettings y = s.spanSettings y) ∧
    (∀ y, (s.recoveredTest).spanProfile y = s.spanProfile y) ∧
    (∀ x, (s.recoveredTest).profile x = s.profile x) ∧
    (∀ x, (s.recoveredTest).circuitNumber x = s.circuitNumber x) ∧
    (∀ x, (s.recoveredTest).equipped x = s.equipped x) ∧ (s.recoveredTest).ring = s.ring ∧
    (∀ z, (s.recoveredTest).locate z = s.locate z) ∧ (∀ y, (s.recoveredTest).failed y = s.failed y) ∧
    (∀ y, (s.recoveredTest).failedDefault y = s.failedDefault y) ∧
    (∀ h, (s.recoveredTest).huntSlot h = s.huntSlot h) ∧
    (∀ x e, (s.recoveredTest).sendingCode x e = s.sendingCode x e) ∧
    (∀ x p, (s.recoveredTest).timerValue x p = s.timerValue x p) ∧
    (∀ x p, (s.recoveredTest).startTimer x p = s.startTimer x p) ∧
    (∀ w, (s.recoveredTest).report w = s.report w) ∧ (∀ x, (s.recoveredTest).eligible x = s.eligible x) ∧
    (s.recoveredTest).eligibleCount = s.eligibleCount ∧
    (∀ x, (s.recoveredTest).controlled x = s.controlled x) :=
  ⟨fun x => s.circuit_congr x _ (by simp), fun y => s.span_congr y _ (by simp),
    fun y => s.spanSettings_congr y _ (by simp), fun y => s.spanProfile_congr y _ (by simp),
    fun x => s.profile_congr x _ (by simp), fun x => s.circuitNumber_congr x _ (by simp),
    fun x => s.equipped_congr x _ (by simp), s.ring_congr _ (by simp), fun z => s.locate_congr z _ (by simp),
    fun y => s.failed_congr y _ (by simp), fun y => s.failedDefault_congr y _ (by simp) (by simp),
    fun h => s.huntSlot_congr h _ (by simp), fun x e => s.sendingCode_congr x e _ (by simp) (by simp),
    fun x p => s.timerValue_congr x p _ (by simp), fun x p => s.startTimer_congr x p _ (by simp) (by simp),
    fun w => s.report_congr w _ (by simp), fun x => s.eligible_congr x _ (by simp) (by simp),
    s.eligibleCount_congr _ (by simp) (by simp), fun x => s.controlled_congr x _ (by simp)⟩

/-- Values that `putView` leaves as they are. -/
@[simp] theorem State.putView_reads (st : Station) (v : ViewRecord) :
    (∀ x, (s.putView st v).circuit x = s.circuit x) ∧ (∀ y, (s.putView st v).span y = s.span y) ∧
    (∀ y, (s.putView st v).spanSettings y = s.spanSettings y) ∧
    (∀ y, (s.putView st v).spanProfile y = s.spanProfile y) ∧ (∀ x, (s.putView st v).profile x = s.profile x) ∧
    (∀ x, (s.putView st v).circuitNumber x = s.circuitNumber x) ∧
    (∀ x, (s.putView st v).equipped x = s.equipped x) ∧ (s.putView st v).ring = s.ring ∧
    (∀ z, (s.putView st v).locate z = s.locate z) ∧ (∀ y, (s.putView st v).failed y = s.failed y) ∧
    (∀ y, (s.putView st v).failedDefault y = s.failedDefault y) ∧
    (∀ h, (s.putView st v).huntSlot h = s.huntSlot h) ∧
    (∀ x e, (s.putView st v).sendingCode x e = s.sendingCode x e) ∧
    (∀ x p, (s.putView st v).timerValue x p = s.timerValue x p) ∧
    (∀ x p, (s.putView st v).startTimer x p = s.startTimer x p) ∧
    (∀ w, (s.putView st v).report w = s.report w) ∧ (∀ x, (s.putView st v).eligible x = s.eligible x) ∧
    (s.putView st v).eligibleCount = s.eligibleCount ∧ (∀ x, (s.putView st v).controlled x = s.controlled x) :=
  ⟨fun x => s.circuit_congr x _ (by simp), fun y => s.span_congr y _ (by simp),
    fun y => s.spanSettings_congr y _ (by simp), fun y => s.spanProfile_congr y _ (by simp),
    fun x => s.profile_congr x _ (by simp), fun x => s.circuitNumber_congr x _ (by simp),
    fun x => s.equipped_congr x _ (by simp), s.ring_congr _ (by simp), fun z => s.locate_congr z _ (by simp),
    fun y => s.failed_congr y _ (by simp), fun y => s.failedDefault_congr y _ (by simp) (by simp),
    fun h => s.huntSlot_congr h _ (by simp), fun x e => s.sendingCode_congr x e _ (by simp) (by simp),
    fun x p => s.timerValue_congr x p _ (by simp), fun x p => s.startTimer_congr x p _ (by simp) (by simp),
    fun w => s.report_congr w _ (by simp), fun x => s.eligible_congr x _ (by simp) (by simp),
    s.eligibleCount_congr _ (by simp) (by simp), fun x => s.controlled_congr x _ (by simp)⟩

/-- Values that `postAbsent` leaves as they are. -/
@[simp] theorem State.postAbsent_reads (st : Station) (n : Nat) :
    (∀ x, (s.postAbsent st n).circuit x = s.circuit x) ∧ (∀ y, (s.postAbsent st n).span y = s.span y) ∧
    (∀ y, (s.postAbsent st n).spanSettings y = s.spanSettings y) ∧
    (∀ y, (s.postAbsent st n).spanProfile y = s.spanProfile y) ∧
    (∀ x, (s.postAbsent st n).profile x = s.profile x) ∧
    (∀ x, (s.postAbsent st n).circuitNumber x = s.circuitNumber x) ∧
    (∀ x, (s.postAbsent st n).equipped x = s.equipped x) ∧ (s.postAbsent st n).ring = s.ring ∧
    (∀ z, (s.postAbsent st n).locate z = s.locate z) ∧ (∀ y, (s.postAbsent st n).failed y = s.failed y) ∧
    (∀ y, (s.postAbsent st n).failedDefault y = s.failedDefault y) ∧
    (∀ h, (s.postAbsent st n).huntSlot h = s.huntSlot h) ∧
    (∀ x e, (s.postAbsent st n).sendingCode x e = s.sendingCode x e) ∧
    (∀ x p, (s.postAbsent st n).timerValue x p = s.timerValue x p) ∧
    (∀ x p, (s.postAbsent st n).startTimer x p = s.startTimer x p) ∧
    (∀ w, (s.postAbsent st n).report w = s.report w) ∧ (∀ x, (s.postAbsent st n).eligible x = s.eligible x) ∧
    (s.postAbsent st n).eligibleCount = s.eligibleCount ∧
    (∀ x, (s.postAbsent st n).controlled x = s.controlled x) :=
  ⟨fun x => s.circuit_congr x _ (by simp), fun y => s.span_congr y _ (by simp),
    fun y => s.spanSettings_congr y _ (by simp), fun y => s.spanProfile_congr y _ (by simp),
    fun x => s.profile_congr x _ (by simp), fun x => s.circuitNumber_congr x _ (by simp),
    fun x => s.equipped_congr x _ (by simp), s.ring_congr _ (by simp), fun z => s.locate_congr z _ (by simp),
    fun y => s.failed_congr y _ (by simp), fun y => s.failedDefault_congr y _ (by simp) (by simp),
    fun h => s.huntSlot_congr h _ (by simp), fun x e => s.sendingCode_congr x e _ (by simp) (by simp),
    fun x p => s.timerValue_congr x p _ (by simp), fun x p => s.startTimer_congr x p _ (by simp) (by simp),
    fun w => s.report_congr w _ (by simp), fun x => s.eligible_congr x _ (by simp) (by simp),
    s.eligibleCount_congr _ (by simp) (by simp), fun x => s.controlled_congr x _ (by simp)⟩

/-- Values that `takeLevel` leaves as they are. -/
@[simp] theorem State.takeLevel_reads (st : Station) (f : LevelFrame) :
    (∀ x, (s.takeLevel st f).circuit x = s.circuit x) ∧ (∀ y, (s.takeLevel st f).span y = s.span y) ∧
    (∀ y, (s.takeLevel st f).spanSettings y = s.spanSettings y) ∧
    (∀ y, (s.takeLevel st f).spanProfile y = s.spanProfile y) ∧
    (∀ x, (s.takeLevel st f).profile x = s.profile x) ∧
    (∀ x, (s.takeLevel st f).circuitNumber x = s.circuitNumber x) ∧
    (∀ x, (s.takeLevel st f).equipped x = s.equipped x) ∧ (s.takeLevel st f).ring = s.ring ∧
    (∀ z, (s.takeLevel st f).locate z = s.locate z) ∧ (∀ y, (s.takeLevel st f).failed y = s.failed y) ∧
    (∀ y, (s.takeLevel st f).failedDefault y = s.failedDefault y) ∧
    (∀ h, (s.takeLevel st f).huntSlot h = s.huntSlot h) ∧
    (∀ x e, (s.takeLevel st f).sendingCode x e = s.sendingCode x e) ∧
    (∀ x p, (s.takeLevel st f).timerValue x p = s.timerValue x p) ∧
    (∀ x p, (s.takeLevel st f).startTimer x p = s.startTimer x p) ∧
    (∀ w, (s.takeLevel st f).report w = s.report w) ∧ (∀ x, (s.takeLevel st f).eligible x = s.eligible x) ∧
    (s.takeLevel st f).eligibleCount = s.eligibleCount ∧
    (∀ x, (s.takeLevel st f).controlled x = s.controlled x) :=
  ⟨fun x => s.circuit_congr x _ (by simp), fun y => s.span_congr y _ (by simp),
    fun y => s.spanSettings_congr y _ (by simp), fun y => s.spanProfile_congr y _ (by simp),
    fun x => s.profile_congr x _ (by simp), fun x => s.circuitNumber_congr x _ (by simp),
    fun x => s.equipped_congr x _ (by simp), s.ring_congr _ (by simp), fun z => s.locate_congr z _ (by simp),
    fun y => s.failed_congr y _ (by simp), fun y => s.failedDefault_congr y _ (by simp) (by simp),
    fun h => s.huntSlot_congr h _ (by simp), fun x e => s.sendingCode_congr x e _ (by simp) (by simp),
    fun x p => s.timerValue_congr x p _ (by simp), fun x p => s.startTimer_congr x p _ (by simp) (by simp),
    fun w => s.report_congr w _ (by simp), fun x => s.eligible_congr x _ (by simp) (by simp),
    s.eligibleCount_congr _ (by simp) (by simp), fun x => s.controlled_congr x _ (by simp)⟩

/-- Values that `markAbsent` leaves as they are. -/
@[simp] theorem State.markAbsent_reads (st : Station) :
    (∀ x, (s.markAbsent st).circuit x = s.circuit x) ∧ (∀ y, (s.markAbsent st).span y = s.span y) ∧
    (∀ y, (s.markAbsent st).spanSettings y = s.spanSettings y) ∧
    (∀ y, (s.markAbsent st).spanProfile y = s.spanProfile y) ∧
    (∀ x, (s.markAbsent st).profile x = s.profile x) ∧
    (∀ x, (s.markAbsent st).circuitNumber x = s.circuitNumber x) ∧
    (∀ x, (s.markAbsent st).equipped x = s.equipped x) ∧ (s.markAbsent st).ring = s.ring ∧
    (∀ z, (s.markAbsent st).locate z = s.locate z) ∧ (∀ y, (s.markAbsent st).failed y = s.failed y) ∧
    (∀ y, (s.markAbsent st).failedDefault y = s.failedDefault y) ∧
    (∀ h, (s.markAbsent st).huntSlot h = s.huntSlot h) ∧
    (∀ x e, (s.markAbsent st).sendingCode x e = s.sendingCode x e) ∧
    (∀ x p, (s.markAbsent st).timerValue x p = s.timerValue x p) ∧
    (∀ x p, (s.markAbsent st).startTimer x p = s.startTimer x p) ∧
    (∀ w, (s.markAbsent st).report w = s.report w) ∧ (∀ x, (s.markAbsent st).eligible x = s.eligible x) ∧
    (s.markAbsent st).eligibleCount = s.eligibleCount ∧
    (∀ x, (s.markAbsent st).controlled x = s.controlled x) :=
  ⟨fun x => s.circuit_congr x _ (by simp), fun y => s.span_congr y _ (by simp),
    fun y => s.spanSettings_congr y _ (by simp), fun y => s.spanProfile_congr y _ (by simp),
    fun x => s.profile_congr x _ (by simp), fun x => s.circuitNumber_congr x _ (by simp),
    fun x => s.equipped_congr x _ (by simp), s.ring_congr _ (by simp), fun z => s.locate_congr z _ (by simp),
    fun y => s.failed_congr y _ (by simp), fun y => s.failedDefault_congr y _ (by simp) (by simp),
    fun h => s.huntSlot_congr h _ (by simp), fun x e => s.sendingCode_congr x e _ (by simp) (by simp),
    fun x p => s.timerValue_congr x p _ (by simp), fun x p => s.startTimer_congr x p _ (by simp) (by simp),
    fun w => s.report_congr w _ (by simp), fun x => s.eligible_congr x _ (by simp) (by simp),
    s.eligibleCount_congr _ (by simp) (by simp), fun x => s.controlled_congr x _ (by simp)⟩

/-- Values that `ageRecord` leaves as they are. -/
@[simp] theorem State.ageRecord_reads (st : Station) :
    (∀ x, (s.ageRecord st).circuit x = s.circuit x) ∧ (∀ y, (s.ageRecord st).span y = s.span y) ∧
    (∀ y, (s.ageRecord st).spanSettings y = s.spanSettings y) ∧
    (∀ y, (s.ageRecord st).spanProfile y = s.spanProfile y) ∧ (∀ x, (s.ageRecord st).profile x = s.profile x) ∧
    (∀ x, (s.ageRecord st).circuitNumber x = s.circuitNumber x) ∧
    (∀ x, (s.ageRecord st).equipped x = s.equipped x) ∧ (s.ageRecord st).ring = s.ring ∧
    (∀ z, (s.ageRecord st).locate z = s.locate z) ∧ (∀ y, (s.ageRecord st).failed y = s.failed y) ∧
    (∀ y, (s.ageRecord st).failedDefault y = s.failedDefault y) ∧
    (∀ h, (s.ageRecord st).huntSlot h = s.huntSlot h) ∧
    (∀ x e, (s.ageRecord st).sendingCode x e = s.sendingCode x e) ∧
    (∀ x p, (s.ageRecord st).timerValue x p = s.timerValue x p) ∧
    (∀ x p, (s.ageRecord st).startTimer x p = s.startTimer x p) ∧
    (∀ w, (s.ageRecord st).report w = s.report w) ∧ (∀ x, (s.ageRecord st).eligible x = s.eligible x) ∧
    (s.ageRecord st).eligibleCount = s.eligibleCount ∧ (∀ x, (s.ageRecord st).controlled x = s.controlled x) :=
  ⟨fun x => s.circuit_congr x _ (by simp), fun y => s.span_congr y _ (by simp),
    fun y => s.spanSettings_congr y _ (by simp), fun y => s.spanProfile_congr y _ (by simp),
    fun x => s.profile_congr x _ (by simp), fun x => s.circuitNumber_congr x _ (by simp),
    fun x => s.equipped_congr x _ (by simp), s.ring_congr _ (by simp), fun z => s.locate_congr z _ (by simp),
    fun y => s.failed_congr y _ (by simp), fun y => s.failedDefault_congr y _ (by simp) (by simp),
    fun h => s.huntSlot_congr h _ (by simp), fun x e => s.sendingCode_congr x e _ (by simp) (by simp),
    fun x p => s.timerValue_congr x p _ (by simp), fun x p => s.startTimer_congr x p _ (by simp) (by simp),
    fun w => s.report_congr w _ (by simp), fun x => s.eligible_congr x _ (by simp) (by simp),
    s.eligibleCount_congr _ (by simp) (by simp), fun x => s.controlled_congr x _ (by simp)⟩

/-- Values that `attemptFailed` leaves as they are. -/
@[simp] theorem State.attemptFailed_reads  :
    (∀ x, (s.attemptFailed).circuit x = s.circuit x) ∧ (∀ y, (s.attemptFailed).span y = s.span y) ∧
    (∀ y, (s.attemptFailed).spanSettings y = s.spanSettings y) ∧
    (∀ y, (s.attemptFailed).spanProfile y = s.spanProfile y) ∧
    (∀ x, (s.attemptFailed).profile x = s.profile x) ∧
    (∀ x, (s.attemptFailed).circuitNumber x = s.circuitNumber x) ∧
    (∀ x, (s.attemptFailed).equipped x = s.equipped x) ∧ (s.attemptFailed).ring = s.ring ∧
    (∀ z, (s.attemptFailed).locate z = s.locate z) ∧ (∀ y, (s.attemptFailed).failed y = s.failed y) ∧
    (∀ y, (s.attemptFailed).failedDefault y = s.failedDefault y) ∧
    (∀ h, (s.attemptFailed).huntSlot h = s.huntSlot h) ∧
    (∀ x e, (s.attemptFailed).sendingCode x e = s.sendingCode x e) ∧
    (∀ x p, (s.attemptFailed).timerValue x p = s.timerValue x p) ∧
    (∀ x p, (s.attemptFailed).startTimer x p = s.startTimer x p) ∧
    (∀ w, (s.attemptFailed).report w = s.report w) ∧ (∀ x, (s.attemptFailed).eligible x = s.eligible x) ∧
    (s.attemptFailed).eligibleCount = s.eligibleCount ∧
    (∀ x, (s.attemptFailed).controlled x = s.controlled x) :=
  ⟨fun x => s.circuit_congr x _ (by simp), fun y => s.span_congr y _ (by simp),
    fun y => s.spanSettings_congr y _ (by simp), fun y => s.spanProfile_congr y _ (by simp),
    fun x => s.profile_congr x _ (by simp), fun x => s.circuitNumber_congr x _ (by simp),
    fun x => s.equipped_congr x _ (by simp), s.ring_congr _ (by simp), fun z => s.locate_congr z _ (by simp),
    fun y => s.failed_congr y _ (by simp), fun y => s.failedDefault_congr y _ (by simp) (by simp),
    fun h => s.huntSlot_congr h _ (by simp), fun x e => s.sendingCode_congr x e _ (by simp) (by simp),
    fun x p => s.timerValue_congr x p _ (by simp), fun x p => s.startTimer_congr x p _ (by simp) (by simp),
    fun w => s.report_congr w _ (by simp), fun x => s.eligible_congr x _ (by simp) (by simp),
    s.eligibleCount_congr _ (by simp) (by simp), fun x => s.controlled_congr x _ (by simp)⟩

/-- Values that `attemptSucceeded` leaves as they are. -/
@[simp] theorem State.attemptSucceeded_reads  :
    (∀ x, (s.attemptSucceeded).circuit x = s.circuit x) ∧ (∀ y, (s.attemptSucceeded).span y = s.span y) ∧
    (∀ y, (s.attemptSucceeded).spanSettings y = s.spanSettings y) ∧
    (∀ y, (s.attemptSucceeded).spanProfile y = s.spanProfile y) ∧
    (∀ x, (s.attemptSucceeded).profile x = s.profile x) ∧
    (∀ x, (s.attemptSucceeded).circuitNumber x = s.circuitNumber x) ∧
    (∀ x, (s.attemptSucceeded).equipped x = s.equipped x) ∧ (s.attemptSucceeded).ring = s.ring ∧
    (∀ z, (s.attemptSucceeded).locate z = s.locate z) ∧ (∀ y, (s.attemptSucceeded).failed y = s.failed y) ∧
    (∀ y, (s.attemptSucceeded).failedDefault y = s.failedDefault y) ∧
    (∀ h, (s.attemptSucceeded).huntSlot h = s.huntSlot h) ∧
    (∀ x e, (s.attemptSucceeded).sendingCode x e = s.sendingCode x e) ∧
    (∀ x p, (s.attemptSucceeded).timerValue x p = s.timerValue x p) ∧
    (∀ x p, (s.attemptSucceeded).startTimer x p = s.startTimer x p) ∧
    (∀ w, (s.attemptSucceeded).report w = s.report w) ∧ (∀ x, (s.attemptSucceeded).eligible x = s.eligible x) ∧
    (s.attemptSucceeded).eligibleCount = s.eligibleCount ∧
    (∀ x, (s.attemptSucceeded).controlled x = s.controlled x) :=
  ⟨fun x => s.circuit_congr x _ (by simp), fun y => s.span_congr y _ (by simp),
    fun y => s.spanSettings_congr y _ (by simp), fun y => s.spanProfile_congr y _ (by simp),
    fun x => s.profile_congr x _ (by simp), fun x => s.circuitNumber_congr x _ (by simp),
    fun x => s.equipped_congr x _ (by simp), s.ring_congr _ (by simp), fun z => s.locate_congr z _ (by simp),
    fun y => s.failed_congr y _ (by simp), fun y => s.failedDefault_congr y _ (by simp) (by simp),
    fun h => s.huntSlot_congr h _ (by simp), fun x e => s.sendingCode_congr x e _ (by simp) (by simp),
    fun x p => s.timerValue_congr x p _ (by simp), fun x p => s.startTimer_congr x p _ (by simp) (by simp),
    fun w => s.report_congr w _ (by simp), fun x => s.eligible_congr x _ (by simp) (by simp),
    s.eligibleCount_congr _ (by simp) (by simp), fun x => s.controlled_congr x _ (by simp)⟩

/-- Values that `countError` leaves as they are. -/
@[simp] theorem State.countError_reads  :
    (∀ x, (s.countError).circuit x = s.circuit x) ∧ (∀ y, (s.countError).span y = s.span y) ∧
    (∀ y, (s.countError).spanSettings y = s.spanSettings y) ∧
    (∀ y, (s.countError).spanProfile y = s.spanProfile y) ∧ (∀ x, (s.countError).profile x = s.profile x) ∧
    (∀ x, (s.countError).circuitNumber x = s.circuitNumber x) ∧
    (∀ x, (s.countError).equipped x = s.equipped x) ∧ (s.countError).ring = s.ring ∧
    (∀ z, (s.countError).locate z = s.locate z) ∧ (∀ y, (s.countError).failed y = s.failed y) ∧
    (∀ y, (s.countError).failedDefault y = s.failedDefault y) ∧
    (∀ h, (s.countError).huntSlot h = s.huntSlot h) ∧
    (∀ x e, (s.countError).sendingCode x e = s.sendingCode x e) ∧
    (∀ x p, (s.countError).timerValue x p = s.timerValue x p) ∧
    (∀ x p, (s.countError).startTimer x p = s.startTimer x p) ∧ (∀ w, (s.countError).report w = s.report w) ∧
    (∀ x, (s.countError).eligible x = s.eligible x) ∧ (s.countError).eligibleCount = s.eligibleCount ∧
    (∀ x, (s.countError).controlled x = s.controlled x) :=
  ⟨fun x => s.circuit_congr x _ (by simp), fun y => s.span_congr y _ (by simp),
    fun y => s.spanSettings_congr y _ (by simp), fun y => s.spanProfile_congr y _ (by simp),
    fun x => s.profile_congr x _ (by simp), fun x => s.circuitNumber_congr x _ (by simp),
    fun x => s.equipped_congr x _ (by simp), s.ring_congr _ (by simp), fun z => s.locate_congr z _ (by simp),
    fun y => s.failed_congr y _ (by simp), fun y => s.failedDefault_congr y _ (by simp) (by simp),
    fun h => s.huntSlot_congr h _ (by simp), fun x e => s.sendingCode_congr x e _ (by simp) (by simp),
    fun x p => s.timerValue_congr x p _ (by simp), fun x p => s.startTimer_congr x p _ (by simp) (by simp),
    fun w => s.report_congr w _ (by simp), fun x => s.eligible_congr x _ (by simp) (by simp),
    s.eligibleCount_congr _ (by simp) (by simp), fun x => s.controlled_congr x _ (by simp)⟩

/-- Values that `acknowledge` leaves as they are. -/
@[simp] theorem State.acknowledge_reads  :
    (∀ x, (s.acknowledge).circuit x = s.circuit x) ∧ (∀ y, (s.acknowledge).span y = s.span y) ∧
    (∀ y, (s.acknowledge).spanSettings y = s.spanSettings y) ∧
    (∀ y, (s.acknowledge).spanProfile y = s.spanProfile y) ∧ (∀ x, (s.acknowledge).profile x = s.profile x) ∧
    (∀ x, (s.acknowledge).circuitNumber x = s.circuitNumber x) ∧
    (∀ x, (s.acknowledge).equipped x = s.equipped x) ∧ (s.acknowledge).ring = s.ring ∧
    (∀ z, (s.acknowledge).locate z = s.locate z) ∧ (∀ y, (s.acknowledge).failed y = s.failed y) ∧
    (∀ y, (s.acknowledge).failedDefault y = s.failedDefault y) ∧
    (∀ h, (s.acknowledge).huntSlot h = s.huntSlot h) ∧
    (∀ x e, (s.acknowledge).sendingCode x e = s.sendingCode x e) ∧
    (∀ x p, (s.acknowledge).timerValue x p = s.timerValue x p) ∧
    (∀ x p, (s.acknowledge).startTimer x p = s.startTimer x p) ∧ (∀ w, (s.acknowledge).report w = s.report w) ∧
    (∀ x, (s.acknowledge).eligible x = s.eligible x) ∧ (s.acknowledge).eligibleCount = s.eligibleCount ∧
    (∀ x, (s.acknowledge).controlled x = s.controlled x) :=
  ⟨fun x => s.circuit_congr x _ (by simp), fun y => s.span_congr y _ (by simp),
    fun y => s.spanSettings_congr y _ (by simp), fun y => s.spanProfile_congr y _ (by simp),
    fun x => s.profile_congr x _ (by simp), fun x => s.circuitNumber_congr x _ (by simp),
    fun x => s.equipped_congr x _ (by simp), s.ring_congr _ (by simp), fun z => s.locate_congr z _ (by simp),
    fun y => s.failed_congr y _ (by simp), fun y => s.failedDefault_congr y _ (by simp) (by simp),
    fun h => s.huntSlot_congr h _ (by simp), fun x e => s.sendingCode_congr x e _ (by simp) (by simp),
    fun x p => s.timerValue_congr x p _ (by simp), fun x p => s.startTimer_congr x p _ (by simp) (by simp),
    fun w => s.report_congr w _ (by simp), fun x => s.eligible_congr x _ (by simp) (by simp),
    s.eligibleCount_congr _ (by simp) (by simp), fun x => s.controlled_congr x _ (by simp)⟩

/-- Values that `passOn` leaves as they are. -/
@[simp] theorem State.passOn_reads (a : ArrivedFrame) :
    (∀ x, (s.passOn a).circuit x = s.circuit x) ∧ (∀ y, (s.passOn a).span y = s.span y) ∧
    (∀ y, (s.passOn a).spanSettings y = s.spanSettings y) ∧
    (∀ y, (s.passOn a).spanProfile y = s.spanProfile y) ∧ (∀ x, (s.passOn a).profile x = s.profile x) ∧
    (∀ x, (s.passOn a).circuitNumber x = s.circuitNumber x) ∧ (∀ x, (s.passOn a).equipped x = s.equipped x) ∧
    (s.passOn a).ring = s.ring ∧ (∀ z, (s.passOn a).locate z = s.locate z) ∧
    (∀ y, (s.passOn a).failed y = s.failed y) ∧ (∀ y, (s.passOn a).failedDefault y = s.failedDefault y) ∧
    (∀ h, (s.passOn a).huntSlot h = s.huntSlot h) ∧ (∀ x e, (s.passOn a).sendingCode x e = s.sendingCode x e) ∧
    (∀ x p, (s.passOn a).timerValue x p = s.timerValue x p) ∧
    (∀ x p, (s.passOn a).startTimer x p = s.startTimer x p) ∧ (∀ w, (s.passOn a).report w = s.report w) ∧
    (∀ x, (s.passOn a).eligible x = s.eligible x) ∧ (s.passOn a).eligibleCount = s.eligibleCount ∧
    (∀ x, (s.passOn a).controlled x = s.controlled x) :=
  ⟨fun x => s.circuit_congr x _ (by simp), fun y => s.span_congr y _ (by simp),
    fun y => s.spanSettings_congr y _ (by simp), fun y => s.spanProfile_congr y _ (by simp),
    fun x => s.profile_congr x _ (by simp), fun x => s.circuitNumber_congr x _ (by simp),
    fun x => s.equipped_congr x _ (by simp), s.ring_congr _ (by simp), fun z => s.locate_congr z _ (by simp),
    fun y => s.failed_congr y _ (by simp), fun y => s.failedDefault_congr y _ (by simp) (by simp),
    fun h => s.huntSlot_congr h _ (by simp), fun x e => s.sendingCode_congr x e _ (by simp) (by simp),
    fun x p => s.timerValue_congr x p _ (by simp), fun x p => s.startTimer_congr x p _ (by simp) (by simp),
    fun w => s.report_congr w _ (by simp), fun x => s.eligible_congr x _ (by simp) (by simp),
    s.eligibleCount_congr _ (by simp) (by simp), fun x => s.controlled_congr x _ (by simp)⟩

/-- Values that `failAll` leaves as they are. -/
@[simp] theorem State.failAll_reads (q : List Queued) :
    (∀ x, (s.failAll q).circuit x = s.circuit x) ∧ (∀ y, (s.failAll q).span y = s.span y) ∧
    (∀ y, (s.failAll q).spanSettings y = s.spanSettings y) ∧
    (∀ y, (s.failAll q).spanProfile y = s.spanProfile y) ∧ (∀ x, (s.failAll q).profile x = s.profile x) ∧
    (∀ x, (s.failAll q).circuitNumber x = s.circuitNumber x) ∧ (∀ x, (s.failAll q).equipped x = s.equipped x) ∧
    (s.failAll q).ring = s.ring ∧ (∀ z, (s.failAll q).locate z = s.locate z) ∧
    (∀ y, (s.failAll q).failed y = s.failed y) ∧ (∀ y, (s.failAll q).failedDefault y = s.failedDefault y) ∧
    (∀ h, (s.failAll q).huntSlot h = s.huntSlot h) ∧
    (∀ x e, (s.failAll q).sendingCode x e = s.sendingCode x e) ∧
    (∀ x p, (s.failAll q).timerValue x p = s.timerValue x p) ∧
    (∀ x p, (s.failAll q).startTimer x p = s.startTimer x p) ∧ (∀ w, (s.failAll q).report w = s.report w) ∧
    (∀ x, (s.failAll q).eligible x = s.eligible x) ∧ (s.failAll q).eligibleCount = s.eligibleCount ∧
    (∀ x, (s.failAll q).controlled x = s.controlled x) :=
  ⟨fun x => s.circuit_congr x _ (by simp), fun y => s.span_congr y _ (by simp),
    fun y => s.spanSettings_congr y _ (by simp), fun y => s.spanProfile_congr y _ (by simp),
    fun x => s.profile_congr x _ (by simp), fun x => s.circuitNumber_congr x _ (by simp),
    fun x => s.equipped_congr x _ (by simp), s.ring_congr _ (by simp), fun z => s.locate_congr z _ (by simp),
    fun y => s.failed_congr y _ (by simp), fun y => s.failedDefault_congr y _ (by simp) (by simp),
    fun h => s.huntSlot_congr h _ (by simp), fun x e => s.sendingCode_congr x e _ (by simp) (by simp),
    fun x p => s.timerValue_congr x p _ (by simp), fun x p => s.startTimer_congr x p _ (by simp) (by simp),
    fun w => s.report_congr w _ (by simp), fun x => s.eligible_congr x _ (by simp) (by simp),
    s.eligibleCount_congr _ (by simp) (by simp), fun x => s.controlled_congr x _ (by simp)⟩

/-- Values that `duplicate` leaves as they are. -/
@[simp] theorem State.duplicate_reads  :
    (∀ x, (s.duplicate).circuit x = s.circuit x) ∧ (∀ y, (s.duplicate).span y = s.span y) ∧
    (∀ y, (s.duplicate).spanSettings y = s.spanSettings y) ∧
    (∀ y, (s.duplicate).spanProfile y = s.spanProfile y) ∧ (∀ x, (s.duplicate).profile x = s.profile x) ∧
    (∀ x, (s.duplicate).circuitNumber x = s.circuitNumber x) ∧ (∀ x, (s.duplicate).equipped x = s.equipped x) ∧
    (s.duplicate).ring = s.ring ∧ (∀ z, (s.duplicate).locate z = s.locate z) ∧
    (∀ y, (s.duplicate).failed y = s.failed y) ∧ (∀ y, (s.duplicate).failedDefault y = s.failedDefault y) ∧
    (∀ h, (s.duplicate).huntSlot h = s.huntSlot h) ∧
    (∀ x e, (s.duplicate).sendingCode x e = s.sendingCode x e) ∧
    (∀ x p, (s.duplicate).timerValue x p = s.timerValue x p) ∧
    (∀ x p, (s.duplicate).startTimer x p = s.startTimer x p) ∧ (∀ w, (s.duplicate).report w = s.report w) ∧
    (∀ x, (s.duplicate).eligible x = s.eligible x) ∧ (s.duplicate).eligibleCount = s.eligibleCount ∧
    (∀ x, (s.duplicate).controlled x = s.controlled x) :=
  ⟨fun x => s.circuit_congr x _ (by simp), fun y => s.span_congr y _ (by simp),
    fun y => s.spanSettings_congr y _ (by simp), fun y => s.spanProfile_congr y _ (by simp),
    fun x => s.profile_congr x _ (by simp), fun x => s.circuitNumber_congr x _ (by simp),
    fun x => s.equipped_congr x _ (by simp), s.ring_congr _ (by simp), fun z => s.locate_congr z _ (by simp),
    fun y => s.failed_congr y _ (by simp), fun y => s.failedDefault_congr y _ (by simp) (by simp),
    fun h => s.huntSlot_congr h _ (by simp), fun x e => s.sendingCode_congr x e _ (by simp) (by simp),
    fun x p => s.timerValue_congr x p _ (by simp), fun x p => s.startTimer_congr x p _ (by simp) (by simp),
    fun w => s.report_congr w _ (by simp), fun x => s.eligible_congr x _ (by simp) (by simp),
    s.eligibleCount_congr _ (by simp) (by simp), fun x => s.controlled_congr x _ (by simp)⟩

/-- Values that `handleFrame` leaves as they are. -/
@[simp] theorem State.handleFrame_reads (st : Station) (c : Content) :
    (∀ x, (s.handleFrame st c).circuit x = s.circuit x) ∧ (∀ y, (s.handleFrame st c).span y = s.span y) ∧
    (∀ y, (s.handleFrame st c).spanSettings y = s.spanSettings y) ∧
    (∀ y, (s.handleFrame st c).spanProfile y = s.spanProfile y) ∧
    (∀ x, (s.handleFrame st c).profile x = s.profile x) ∧
    (∀ x, (s.handleFrame st c).circuitNumber x = s.circuitNumber x) ∧
    (∀ x, (s.handleFrame st c).equipped x = s.equipped x) ∧ (s.handleFrame st c).ring = s.ring ∧
    (∀ z, (s.handleFrame st c).locate z = s.locate z) ∧ (∀ y, (s.handleFrame st c).failed y = s.failed y) ∧
    (∀ y, (s.handleFrame st c).failedDefault y = s.failedDefault y) ∧
    (∀ h, (s.handleFrame st c).huntSlot h = s.huntSlot h) ∧
    (∀ x e, (s.handleFrame st c).sendingCode x e = s.sendingCode x e) ∧
    (∀ x p, (s.handleFrame st c).timerValue x p = s.timerValue x p) ∧
    (∀ x p, (s.handleFrame st c).startTimer x p = s.startTimer x p) ∧
    (∀ w, (s.handleFrame st c).report w = s.report w) ∧ (∀ x, (s.handleFrame st c).eligible x = s.eligible x) ∧
    (s.handleFrame st c).eligibleCount = s.eligibleCount ∧
    (∀ x, (s.handleFrame st c).controlled x = s.controlled x) :=
  ⟨fun x => s.circuit_congr x _ (by simp), fun y => s.span_congr y _ (by simp),
    fun y => s.spanSettings_congr y _ (by simp), fun y => s.spanProfile_congr y _ (by simp),
    fun x => s.profile_congr x _ (by simp), fun x => s.circuitNumber_congr x _ (by simp),
    fun x => s.equipped_congr x _ (by simp), s.ring_congr _ (by simp), fun z => s.locate_congr z _ (by simp),
    fun y => s.failed_congr y _ (by simp), fun y => s.failedDefault_congr y _ (by simp) (by simp),
    fun h => s.huntSlot_congr h _ (by simp), fun x e => s.sendingCode_congr x e _ (by simp) (by simp),
    fun x p => s.timerValue_congr x p _ (by simp), fun x p => s.startTimer_congr x p _ (by simp) (by simp),
    fun w => s.report_congr w _ (by simp), fun x => s.eligible_congr x _ (by simp) (by simp),
    s.eligibleCount_congr _ (by simp) (by simp), fun x => s.controlled_congr x _ (by simp)⟩

/-- Values that `received` leaves as they are. -/
@[simp] theorem State.received_reads (r : Received) :
    (∀ x, (s.received r).circuit x = s.circuit x) ∧ (∀ y, (s.received r).span y = s.span y) ∧
    (∀ y, (s.received r).spanSettings y = s.spanSettings y) ∧
    (∀ y, (s.received r).spanProfile y = s.spanProfile y) ∧ (∀ x, (s.received r).profile x = s.profile x) ∧
    (∀ x, (s.received r).circuitNumber x = s.circuitNumber x) ∧
    (∀ x, (s.received r).equipped x = s.equipped x) ∧ (s.received r).ring = s.ring ∧
    (∀ z, (s.received r).locate z = s.locate z) ∧ (∀ y, (s.received r).failed y = s.failed y) ∧
    (∀ y, (s.received r).failedDefault y = s.failedDefault y) ∧
    (∀ h, (s.received r).huntSlot h = s.huntSlot h) ∧
    (∀ x e, (s.received r).sendingCode x e = s.sendingCode x e) ∧
    (∀ x p, (s.received r).timerValue x p = s.timerValue x p) ∧
    (∀ x p, (s.received r).startTimer x p = s.startTimer x p) ∧ (∀ w, (s.received r).report w = s.report w) ∧
    (∀ x, (s.received r).eligible x = s.eligible x) ∧ (s.received r).eligibleCount = s.eligibleCount ∧
    (∀ x, (s.received r).controlled x = s.controlled x) :=
  ⟨fun x => s.circuit_congr x _ (by simp), fun y => s.span_congr y _ (by simp),
    fun y => s.spanSettings_congr y _ (by simp), fun y => s.spanProfile_congr y _ (by simp),
    fun x => s.profile_congr x _ (by simp), fun x => s.circuitNumber_congr x _ (by simp),
    fun x => s.equipped_congr x _ (by simp), s.ring_congr _ (by simp), fun z => s.locate_congr z _ (by simp),
    fun y => s.failed_congr y _ (by simp), fun y => s.failedDefault_congr y _ (by simp) (by simp),
    fun h => s.huntSlot_congr h _ (by simp), fun x e => s.sendingCode_congr x e _ (by simp) (by simp),
    fun x p => s.timerValue_congr x p _ (by simp), fun x p => s.startTimer_congr x p _ (by simp) (by simp),
    fun w => s.report_congr w _ (by simp), fun x => s.eligible_congr x _ (by simp) (by simp),
    s.eligibleCount_congr _ (by simp) (by simp), fun x => s.controlled_congr x _ (by simp)⟩

/-- Values that `endReception` leaves as they are. -/
@[simp] theorem State.endReception_reads  :
    (∀ x, (s.endReception).circuit x = s.circuit x) ∧ (∀ y, (s.endReception).span y = s.span y) ∧
    (∀ y, (s.endReception).spanSettings y = s.spanSettings y) ∧
    (∀ y, (s.endReception).spanProfile y = s.spanProfile y) ∧ (∀ x, (s.endReception).profile x = s.profile x) ∧
    (∀ x, (s.endReception).circuitNumber x = s.circuitNumber x) ∧
    (∀ x, (s.endReception).equipped x = s.equipped x) ∧ (s.endReception).ring = s.ring ∧
    (∀ z, (s.endReception).locate z = s.locate z) ∧ (∀ y, (s.endReception).failed y = s.failed y) ∧
    (∀ y, (s.endReception).failedDefault y = s.failedDefault y) ∧
    (∀ h, (s.endReception).huntSlot h = s.huntSlot h) ∧
    (∀ x e, (s.endReception).sendingCode x e = s.sendingCode x e) ∧
    (∀ x p, (s.endReception).timerValue x p = s.timerValue x p) ∧
    (∀ x p, (s.endReception).startTimer x p = s.startTimer x p) ∧
    (∀ w, (s.endReception).report w = s.report w) ∧ (∀ x, (s.endReception).eligible x = s.eligible x) ∧
    (s.endReception).eligibleCount = s.eligibleCount ∧ (∀ x, (s.endReception).controlled x = s.controlled x) :=
  ⟨fun x => s.circuit_congr x _ (by simp), fun y => s.span_congr y _ (by simp),
    fun y => s.spanSettings_congr y _ (by simp), fun y => s.spanProfile_congr y _ (by simp),
    fun x => s.profile_congr x _ (by simp), fun x => s.circuitNumber_congr x _ (by simp),
    fun x => s.equipped_congr x _ (by simp), s.ring_congr _ (by simp), fun z => s.locate_congr z _ (by simp),
    fun y => s.failed_congr y _ (by simp), fun y => s.failedDefault_congr y _ (by simp) (by simp),
    fun h => s.huntSlot_congr h _ (by simp), fun x e => s.sendingCode_congr x e _ (by simp) (by simp),
    fun x p => s.timerValue_congr x p _ (by simp), fun x p => s.startTimer_congr x p _ (by simp) (by simp),
    fun w => s.report_congr w _ (by simp), fun x => s.eligible_congr x _ (by simp) (by simp),
    s.eligibleCount_congr _ (by simp) (by simp), fun x => s.controlled_congr x _ (by simp)⟩

/-- Values that `cutTest` leaves as they are. -/
@[simp] theorem State.cutTest_reads  :
    (∀ x, (s.cutTest).circuit x = s.circuit x) ∧ (∀ y, (s.cutTest).span y = s.span y) ∧
    (∀ y, (s.cutTest).spanSettings y = s.spanSettings y) ∧
    (∀ y, (s.cutTest).spanProfile y = s.spanProfile y) ∧ (∀ x, (s.cutTest).profile x = s.profile x) ∧
    (∀ x, (s.cutTest).circuitNumber x = s.circuitNumber x) ∧
    (∀ x, (s.cutTest).equipped x = s.equipped x) ∧ (s.cutTest).ring = s.ring ∧
    (∀ z, (s.cutTest).locate z = s.locate z) ∧ (∀ y, (s.cutTest).failed y = s.failed y) ∧
    (∀ y, (s.cutTest).failedDefault y = s.failedDefault y) ∧
    (∀ h, (s.cutTest).huntSlot h = s.huntSlot h) ∧
    (∀ x e, (s.cutTest).sendingCode x e = s.sendingCode x e) ∧
    (∀ x p, (s.cutTest).timerValue x p = s.timerValue x p) ∧
    (∀ x p, (s.cutTest).startTimer x p = s.startTimer x p) ∧
    (∀ w, (s.cutTest).report w = s.report w) ∧ (∀ x, (s.cutTest).eligible x = s.eligible x) ∧
    (s.cutTest).eligibleCount = s.eligibleCount ∧ (∀ x, (s.cutTest).controlled x = s.controlled x) :=
  ⟨fun x => s.circuit_congr x _ (by simp), fun y => s.span_congr y _ (by simp),
    fun y => s.spanSettings_congr y _ (by simp), fun y => s.spanProfile_congr y _ (by simp),
    fun x => s.profile_congr x _ (by simp), fun x => s.circuitNumber_congr x _ (by simp),
    fun x => s.equipped_congr x _ (by simp), s.ring_congr _ (by simp), fun z => s.locate_congr z _ (by simp),
    fun y => s.failed_congr y _ (by simp), fun y => s.failedDefault_congr y _ (by simp) (by simp),
    fun h => s.huntSlot_congr h _ (by simp), fun x e => s.sendingCode_congr x e _ (by simp) (by simp),
    fun x p => s.timerValue_congr x p _ (by simp), fun x p => s.startTimer_congr x p _ (by simp) (by simp),
    fun w => s.report_congr w _ (by simp), fun x => s.eligible_congr x _ (by simp) (by simp),
    s.eligibleCount_congr _ (by simp) (by simp), fun x => s.controlled_congr x _ (by simp)⟩

/-- Values that `hearBit` leaves as they are. -/
@[simp] theorem State.hearBit_reads (bit : Bit) :
    (∀ x, (s.hearBit bit).circuit x = s.circuit x) ∧ (∀ y, (s.hearBit bit).span y = s.span y) ∧
    (∀ y, (s.hearBit bit).spanSettings y = s.spanSettings y) ∧
    (∀ y, (s.hearBit bit).spanProfile y = s.spanProfile y) ∧ (∀ x, (s.hearBit bit).profile x = s.profile x) ∧
    (∀ x, (s.hearBit bit).circuitNumber x = s.circuitNumber x) ∧
    (∀ x, (s.hearBit bit).equipped x = s.equipped x) ∧ (s.hearBit bit).ring = s.ring ∧
    (∀ z, (s.hearBit bit).locate z = s.locate z) ∧ (∀ y, (s.hearBit bit).failed y = s.failed y) ∧
    (∀ y, (s.hearBit bit).failedDefault y = s.failedDefault y) ∧
    (∀ h, (s.hearBit bit).huntSlot h = s.huntSlot h) ∧
    (∀ x e, (s.hearBit bit).sendingCode x e = s.sendingCode x e) ∧
    (∀ x p, (s.hearBit bit).timerValue x p = s.timerValue x p) ∧
    (∀ x p, (s.hearBit bit).startTimer x p = s.startTimer x p) ∧ (∀ w, (s.hearBit bit).report w = s.report w) ∧
    (∀ x, (s.hearBit bit).eligible x = s.eligible x) ∧ (s.hearBit bit).eligibleCount = s.eligibleCount ∧
    (∀ x, (s.hearBit bit).controlled x = s.controlled x) :=
  ⟨fun x => s.circuit_congr x _ (by simp), fun y => s.span_congr y _ (by simp),
    fun y => s.spanSettings_congr y _ (by simp), fun y => s.spanProfile_congr y _ (by simp),
    fun x => s.profile_congr x _ (by simp), fun x => s.circuitNumber_congr x _ (by simp),
    fun x => s.equipped_congr x _ (by simp), s.ring_congr _ (by simp), fun z => s.locate_congr z _ (by simp),
    fun y => s.failed_congr y _ (by simp), fun y => s.failedDefault_congr y _ (by simp) (by simp),
    fun h => s.huntSlot_congr h _ (by simp), fun x e => s.sendingCode_congr x e _ (by simp) (by simp),
    fun x p => s.timerValue_congr x p _ (by simp), fun x p => s.startTimer_congr x p _ (by simp) (by simp),
    fun w => s.report_congr w _ (by simp), fun x => s.eligible_congr x _ (by simp) (by simp),
    s.eligibleCount_congr _ (by simp) (by simp), fun x => s.controlled_congr x _ (by simp)⟩

/-- Values that `hear` leaves as they are. -/
@[simp] theorem State.hear_reads (line : List Bit) :
    (∀ x, (s.hear line).circuit x = s.circuit x) ∧ (∀ y, (s.hear line).span y = s.span y) ∧
    (∀ y, (s.hear line).spanSettings y = s.spanSettings y) ∧
    (∀ y, (s.hear line).spanProfile y = s.spanProfile y) ∧ (∀ x, (s.hear line).profile x = s.profile x) ∧
    (∀ x, (s.hear line).circuitNumber x = s.circuitNumber x) ∧ (∀ x, (s.hear line).equipped x = s.equipped x) ∧
    (s.hear line).ring = s.ring ∧ (∀ z, (s.hear line).locate z = s.locate z) ∧
    (∀ y, (s.hear line).failed y = s.failed y) ∧ (∀ y, (s.hear line).failedDefault y = s.failedDefault y) ∧
    (∀ h, (s.hear line).huntSlot h = s.huntSlot h) ∧
    (∀ x e, (s.hear line).sendingCode x e = s.sendingCode x e) ∧
    (∀ x p, (s.hear line).timerValue x p = s.timerValue x p) ∧
    (∀ x p, (s.hear line).startTimer x p = s.startTimer x p) ∧ (∀ w, (s.hear line).report w = s.report w) ∧
    (∀ x, (s.hear line).eligible x = s.eligible x) ∧ (s.hear line).eligibleCount = s.eligibleCount ∧
    (∀ x, (s.hear line).controlled x = s.controlled x) :=
  ⟨fun x => s.circuit_congr x _ (by simp), fun y => s.span_congr y _ (by simp),
    fun y => s.spanSettings_congr y _ (by simp), fun y => s.spanProfile_congr y _ (by simp),
    fun x => s.profile_congr x _ (by simp), fun x => s.circuitNumber_congr x _ (by simp),
    fun x => s.equipped_congr x _ (by simp), s.ring_congr _ (by simp), fun z => s.locate_congr z _ (by simp),
    fun y => s.failed_congr y _ (by simp), fun y => s.failedDefault_congr y _ (by simp) (by simp),
    fun h => s.huntSlot_congr h _ (by simp), fun x e => s.sendingCode_congr x e _ (by simp) (by simp),
    fun x p => s.timerValue_congr x p _ (by simp), fun x p => s.startTimer_congr x p _ (by simp) (by simp),
    fun w => s.report_congr w _ (by simp), fun x => s.eligible_congr x _ (by simp) (by simp),
    s.eligibleCount_congr _ (by simp) (by simp), fun x => s.controlled_congr x _ (by simp)⟩

/-- Values that `freeFetched` leaves as they are. -/
@[simp] theorem State.freeFetched_reads (r : Report) :
    (∀ x, (s.freeFetched r).circuit x = s.circuit x) ∧ (∀ y, (s.freeFetched r).span y = s.span y) ∧
    (∀ y, (s.freeFetched r).spanSettings y = s.spanSettings y) ∧
    (∀ y, (s.freeFetched r).spanProfile y = s.spanProfile y) ∧
    (∀ x, (s.freeFetched r).profile x = s.profile x) ∧
    (∀ x, (s.freeFetched r).circuitNumber x = s.circuitNumber x) ∧
    (∀ x, (s.freeFetched r).equipped x = s.equipped x) ∧ (s.freeFetched r).ring = s.ring ∧
    (∀ z, (s.freeFetched r).locate z = s.locate z) ∧ (∀ y, (s.freeFetched r).failed y = s.failed y) ∧
    (∀ y, (s.freeFetched r).failedDefault y = s.failedDefault y) ∧
    (∀ x e, (s.freeFetched r).sendingCode x e = s.sendingCode x e) ∧
    (∀ x p, (s.freeFetched r).timerValue x p = s.timerValue x p) ∧
    (∀ x p, (s.freeFetched r).startTimer x p = s.startTimer x p) ∧
    (∀ w, (s.freeFetched r).report w = s.report w) ∧ (∀ x, (s.freeFetched r).eligible x = s.eligible x) ∧
    (s.freeFetched r).eligibleCount = s.eligibleCount ∧
    (∀ x, (s.freeFetched r).controlled x = s.controlled x) :=
  ⟨fun x => s.circuit_congr x _ (by simp), fun y => s.span_congr y _ (by simp),
    fun y => s.spanSettings_congr y _ (by simp), fun y => s.spanProfile_congr y _ (by simp),
    fun x => s.profile_congr x _ (by simp), fun x => s.circuitNumber_congr x _ (by simp),
    fun x => s.equipped_congr x _ (by simp), s.ring_congr _ (by simp), fun z => s.locate_congr z _ (by simp),
    fun y => s.failed_congr y _ (by simp), fun y => s.failedDefault_congr y _ (by simp) (by simp),
    fun x e => s.sendingCode_congr x e _ (by simp) (by simp), fun x p => s.timerValue_congr x p _ (by simp),
    fun x p => s.startTimer_congr x p _ (by simp) (by simp), fun w => s.report_congr w _ (by simp),
    fun x => s.eligible_congr x _ (by simp) (by simp), s.eligibleCount_congr _ (by simp) (by simp),
    fun x => s.controlled_congr x _ (by simp)⟩

/-- Values that `resyncTest` leaves as they are. -/
@[simp] theorem State.resyncTest_reads  :
    (∀ x, (s.resyncTest).circuit x = s.circuit x) ∧ (∀ y, (s.resyncTest).span y = s.span y) ∧
    (∀ y, (s.resyncTest).spanSettings y = s.spanSettings y) ∧
    (∀ y, (s.resyncTest).spanProfile y = s.spanProfile y) ∧ (∀ x, (s.resyncTest).profile x = s.profile x) ∧
    (∀ x, (s.resyncTest).circuitNumber x = s.circuitNumber x) ∧
    (∀ x, (s.resyncTest).equipped x = s.equipped x) ∧ (s.resyncTest).ring = s.ring ∧
    (∀ z, (s.resyncTest).locate z = s.locate z) ∧ (∀ y, (s.resyncTest).failed y = s.failed y) ∧
    (∀ y, (s.resyncTest).failedDefault y = s.failedDefault y) ∧
    (∀ h, (s.resyncTest).huntSlot h = s.huntSlot h) ∧
    (∀ x e, (s.resyncTest).sendingCode x e = s.sendingCode x e) ∧
    (∀ x p, (s.resyncTest).timerValue x p = s.timerValue x p) ∧
    (∀ x p, (s.resyncTest).startTimer x p = s.startTimer x p) ∧ (∀ w, (s.resyncTest).report w = s.report w) ∧
    (∀ x, (s.resyncTest).eligible x = s.eligible x) ∧ (s.resyncTest).eligibleCount = s.eligibleCount ∧
    (∀ x, (s.resyncTest).controlled x = s.controlled x) :=
  ⟨fun x => s.circuit_congr x _ (by simp), fun y => s.span_congr y _ (by simp),
    fun y => s.spanSettings_congr y _ (by simp), fun y => s.spanProfile_congr y _ (by simp),
    fun x => s.profile_congr x _ (by simp), fun x => s.circuitNumber_congr x _ (by simp),
    fun x => s.equipped_congr x _ (by simp), s.ring_congr _ (by simp), fun z => s.locate_congr z _ (by simp),
    fun y => s.failed_congr y _ (by simp), fun y => s.failedDefault_congr y _ (by simp) (by simp),
    fun h => s.huntSlot_congr h _ (by simp), fun x e => s.sendingCode_congr x e _ (by simp) (by simp),
    fun x p => s.timerValue_congr x p _ (by simp), fun x p => s.startTimer_congr x p _ (by simp) (by simp),
    fun w => s.report_congr w _ (by simp), fun x => s.eligible_congr x _ (by simp) (by simp),
    s.eligibleCount_congr _ (by simp) (by simp), fun x => s.controlled_congr x _ (by simp)⟩

end Sys2Proof.Machine
end

