-- ==== Sys2Proof/Laws/Ops.lean ====
section
/-! SUPPORT. What the shared operations do, each said once. -/

namespace Sys2Proof.Machine

variable (s : State) (slot x : Slot) (c d : Circuit)

/-! ### Events while the reset input is released -/

/-- With the reset input released the rule acts. -/
theorem whenReleased_released (f : State → State) (h : s.inReset = false) : whenReleased s f = .next (f s) := by
  simp [whenReleased, h]

/-- With the reset input asserted nothing changes. -/
theorem whenReleased_held (f : State → State) (h : s.inReset = true) : whenReleased s f = .next s := by
  simp [whenReleased, h]

/-! ### Circuit records -/

/-- A circuit record reads as written; every other one as before. -/
theorem State.circuit_writeCircuit : (s.writeCircuit slot c).circuit x = if x = slot then c else s.circuit x := by
  by_cases h : x = slot
  · subst h; simp [State.writeCircuit, State.circuit]
  · have h' : slot.val ≠ x.val := fun e => h (Fin.ext e.symm)
    simp [State.writeCircuit, State.circuit, h, h']

/-- The record just written. -/
@[simp] theorem State.circuit_writeCircuit_self : (s.writeCircuit slot c).circuit slot = c := by
  simp [State.circuit_writeCircuit]

/-- Another circuit's record. -/
theorem State.circuit_writeCircuit_ne (h : x ≠ slot) : (s.writeCircuit slot c).circuit x = s.circuit x := by
  simp [State.circuit_writeCircuit, h]

/-- `putCircuit` writes the record with the send code of the sending table. -/
theorem State.putCircuit_eq :
    s.putCircuit slot c = s.writeCircuit slot { c with sendCode := s.sendingCode slot c } := rfl

/-- The record just put. -/
@[simp] theorem State.circuit_putCircuit_self :
    (s.putCircuit slot c).circuit slot = { c with sendCode := s.sendingCode slot c } := by
  simp [State.putCircuit_eq]

/-- Another circuit's record. -/
theorem State.circuit_putCircuit_ne (h : x ≠ slot) : (s.putCircuit slot c).circuit x = s.circuit x := by
  simp [State.putCircuit_eq, State.circuit_writeCircuit, h]

/-- The later of two writes of one record stands. -/
@[simp] theorem State.writeCircuit_writeCircuit : (s.writeCircuit slot c).writeCircuit slot d = s.writeCircuit slot d := by
  simp [State.writeCircuit, State.setCircuits]

/-- A write of a record before `putCircuit` writes the same one is lost. -/
@[simp] theorem State.putCircuit_writeCircuit : (s.writeCircuit slot c).putCircuit slot d = s.putCircuit slot d := by
  simp [State.putCircuit_eq]

/-- Writing back the record that stands changes nothing. -/
@[simp] theorem State.writeCircuit_same : s.writeCircuit slot (s.circuit slot) = s := by
  simp [State.writeCircuit, State.setCircuits, State.circuit]

/-! ### Reports -/

/-- A hunt outcome has no owner entry. -/
theorem Report.sameOwner_hunt (r q : Report) (h : r.kind.ofHunt = true) : r.sameOwner q = false := by
  cases hk : r.kind <;> simp_all [Report.sameOwner, ReportKind.ofHunt, ReportKind.ofSpan, ReportKind.ofBus]

/-- A hunt outcome joins the queue (R109, R169). -/
theorem State.post_hunt (d : Option Slot) (r : Report) (h : r.kind.ofHunt = true) :
    s.post d r = s.setReportQueue (s.reports.queue ++ [r]) := by
  have hg : r.kind.guaranteed = true := by simp [ReportKind.guaranteed, h]
  have hn : s.reports.queue.any r.sameOwner = false := by
    simp [List.any_eq_false, Report.sameOwner_hunt r _ h]
  simp [State.post, hg, hn]

/-- A divertible report joins while fewer than 40 wait (R169). -/
theorem State.post_joins (d : Option Slot) (r : Report) (h : r.kind.guaranteed = false)
    (hq : s.reports.queue.length < Config.divertAt) : s.post d r = s.setReportQueue (s.reports.queue ++ [r]) := by
  simp [State.post, h, hq]

/-- A divertible circuit report that finds 40 or more marks its circuit (R169). -/
theorem State.post_diverts (r : Report) (h : r.kind.guaranteed = false)
    (hq : ¬ s.reports.queue.length < Config.divertAt) :
    s.post (some slot) r = s.setReports { s.reports with resync := s.reports.resync ||| BitVec.twoPow 48 slot.val } := by
  simp [State.post, h, hq]

/-! ### Recounting -/

/-- After a recount F is the number of eligible circuits (R103). -/
@[simp] theorem State.recount_free : s.recount.hunt.free = s.eligibleCount := by
  unfold State.recount; dsimp only; split <;> simp

/-- After a recount L is what the thresholds give for F (R104). -/
@[simp] theorem State.recount_level : s.recount.hunt.level = levelFor s.settings.station s.eligibleCount := by
  unfold State.recount; dsimp only; split <;> simp

/-- An event that changes nothing the hunt unit is told of, and brings no circuit to rest, ends with nothing further. -/
theorem State.settle_quiet (before : Circuit) (hn : notifies before (s.circuit slot) = false)
    (hr : entersRest before (s.circuit slot) = false) : s.settle slot before = s := by
  simp [State.settle, hn, hr]

/-! ### Hunt slots -/

/-- A hunt slot reads as written; every other one as before. -/
theorem State.huntSlot_putHuntSlot (i j : HuntIx) (h : HuntSlot) :
    (s.putHuntSlot i h).huntSlot j = if j = i then h else s.huntSlot j := by
  by_cases e : j = i
  · subst e; simp [State.putHuntSlot, State.huntSlot]
  · have e' : i.val ≠ j.val := fun k => e (Fin.ext k.symm)
    simp [State.putHuntSlot, State.huntSlot, e, e']

/-- A slot that no longer holds the request has had its outcome: nothing changes. -/
theorem State.endSlot_gone (ix : HuntIx) (r : Reference) (rep : Report) (h : (s.huntSlot ix).holds r = false) :
    s.endSlot ix r rep = s := by
  simp [State.endSlot, h]

/-! ### Spans -/

/-- A span record reads as written; every other one as before. -/
theorem State.span_putSpan (i j : SpanIx) (g : Span) : (s.putSpan i g).span j = if j = i then g else s.span j := by
  by_cases e : j = i
  · subst e; simp [State.putSpan, State.span]
  · have e' : i.val ≠ j.val := fun k => e (Fin.ext k.symm)
    simp [State.putSpan, State.span, e, e']

/-! ### Span actions (R150, R154, R155, R159) -/

/-- A circuit whose oldest action is of the kind takes it. -/
theorem State.takeAction_taken (k : ActionKind) (rule : State → State) (h : s.nextAction slot = some k) :
    s.takeAction slot k rule = rule (s.actionTaken slot) := by
  simp [State.takeAction, h]

/-- An action of another kind, or none, leaves the command without effect. -/
theorem State.takeAction_other (k : ActionKind) (rule : State → State) (h : s.nextAction slot ≠ some k) :
    s.takeAction slot k rule = s := by
  simp [State.takeAction, h]

/-- Taking an action off its list changes no circuit record. -/
@[simp] theorem State.circuit_actionTaken : (s.actionTaken slot).circuit x = s.circuit x := rfl

/-- While the restoration action waits a standing 12 is held (R155). -/
theorem State.standingSeizure_held (h : s.awaitsRestoration slot = true) : s.standingSeizure slot = s := by
  simp [State.standingSeizure, h]

/-- With none waiting it is an incoming seizure, which a FAILED span holds in its turn (R153). -/
theorem State.standingSeizure_taken (h : s.awaitsRestoration slot = false) :
    s.standingSeizure slot = s.incomingSeizure slot := by
  simp [State.standingSeizure, h]

/-! ### Highway time (R3, R4) -/

/-- Below 6 ms, or in LOST, time only lengthens the silence interval. -/
theorem State.passSilence_runs (n : Nat)
    (h : s.highway.present = false ∨ s.highway.silence + n < Config.silenceLimit) :
    s.passSilence n = s.setHighway { s.highway with silence := s.highway.silence + n } := by
  rcases h with h | h
  · simp [State.passSilence, h]
  · have h' : ¬ Config.silenceLimit ≤ s.highway.silence + n := by omega
    simp [State.passSilence, h']

/-- At 6 ms the highway is LOST and the first substitute is produced. -/
theorem State.passSilence_lost (n : Nat) (hp : s.highway.present = true)
    (h : Config.silenceLimit ≤ s.highway.silence + n) :
    s.passSilence n =
      (s.setHighway { s.highway with present := false, goodRun := 0, silence := s.highway.silence + n }).substitute := by
  simp [State.passSilence, hp, h]

/-! ### Bits heard (R114, R115, R117, R124) -/

/-- No bit changes nothing. -/
@[simp] theorem State.hear_nil : s.hear [] = s := rfl

/-- One bit at a time. -/
@[simp] theorem State.hear_cons (bit : Bit) (line : List Bit) : s.hear (bit :: line) = (s.hearBit bit).hear line := rfl

/-- A line may be heard in parts. -/
theorem State.hear_append (line more : List Bit) : s.hear (line ++ more) = (s.hear line).hear more := by
  simp [State.hear, List.foldl_append]

/-- Counts of a line taken in parts. -/
theorem Bus.fed_append (b : Bus) (line more : List Bit) : b.fed (line ++ more) = (b.fed line).fed more := by
  simp [Bus.fed, List.foldl_append]

/-- With no frame in reception none ends. -/
theorem State.endReception_none (h : s.bus.reception = []) : s.endReception = s := by
  simp [State.endReception, h]

/-- A frame in reception ends and is judged. -/
theorem State.endReception_ends (h : s.bus.reception ≠ []) :
    s.endReception = (s.setBus { s.bus with reception := [] }).received (receive s.bus.reception) := by
  simp [State.endReception, h]

/-- A frame that can go on stays in reception. -/
theorem State.cutTest_not (h : s.bus.cutsFrame = false) : s.cutTest = s := by
  simp [State.cutTest, h]

/-- A frame that cannot go on ends. -/
theorem State.cutTest_ends (h : s.bus.cutsFrame = true) : s.cutTest = s.endReception := by
  simp [State.cutTest, h]

/-- One bit heard: the counts and the reception take it, then the tests are made. -/
theorem State.hearBit_eq (bit : Bit) :
    s.hearBit bit = (s.setBus (s.bus.heard bit)).cutTest.stuckTest.recoveredTest := rfl

/-- Below 24 dominant bit times, or outside ACTIVE, the line is not stuck. -/
theorem State.stuckTest_not (h : s.bus.state ≠ .active ∨ s.bus.dominantRun ≠ Config.stuckBits) : s.stuckTest = s := by
  rcases h with h | h <;> simp [State.stuckTest, h]

/-- Below 11 recessive bit times, or outside FAULT, nothing recovers. -/
theorem State.recoveredTest_not (h : s.bus.state ≠ .fault ∨ s.bus.recessiveRun ≠ Config.idleBits) :
    s.recoveredTest = s := by
  rcases h with h | h <;> simp [State.recoveredTest, h]

/-! ### Bits sent (R114, R119, R120) -/

/-- With no bit left the frame is sent. -/
@[simp] theorem sendBits_nil (arb run : Nat) (back : List Bit) : sendBits arb run [] back = (.sent, []) := by
  simp [sendBits]

/-- A dominant bit read where a recessive one is sent in the arbitration part loses the arbitration. -/
theorem sendBits_lost (arb run : Nat) (data back : List Bit) (h : 0 < arb) :
    sendBits arb run (true :: data) (false :: back) = (.lost, [false]) := by
  have h' : arb ≠ 0 := by omega
  simp [sendBits, h']

/-- Behind the arbitration part a bit read other than sent aborts. -/
theorem sendBits_aborted (run : Nat) (b : Bit) (data back : List Bit) :
    sendBits 0 run (b :: data) ((!b) :: back) = (.aborted, [!b]) := by
  simp [sendBits]

/-- A bit read recessive ends the run of dominant bits, and the next bit follows. -/
theorem sendBits_recessive (arb run : Nat) (b : Bit) (data back : List Bit) (h : b = true ∨ 0 < arb) :
    sendBits arb run (b :: data) (true :: back) =
      ((sendBits (arb - 1) 0 data back).1, true :: (sendBits (arb - 1) 0 data back).2) := by
  rcases h with rfl | h
  · simp [sendBits, Config.stuffRun]
  · have h' : arb ≠ 0 := by omega
    simp [sendBits, Config.stuffRun, h']

/-- A stuff bit due after the last bit is read as the line gives it, and the frame is sent. -/
theorem sendBits_last (arb : Nat) (bit : Bit) (back : List Bit) :
    sendBits arb 4 [false] (false :: bit :: back) = (.sent, [false, bit]) := by
  simp [sendBits, Config.stuffRun]

/-! ### The seize command (R110, R111) -/

/-- With no dispatch no circuit has taken a seize command. -/
theorem State.takenCircuit_idle (ix : HuntIx) (r : Reference) (h : s.hunt.dispatch = none) : s.takenCircuit ix r = none := by
  simp [State.takenCircuit, h]

/-- A circuit has taken the command only as the dispatch record says, and it holds the request. -/
theorem State.takenCircuit_some (ix : HuntIx) (r : Reference) (h : s.takenCircuit ix r = some x) :
    (∃ d, s.hunt.dispatch = some d ∧ d.stage = .taken ∧ d.request.isOf ix r = true ∧ d.circuit = x)
      ∧ (s.circuit x).seizingFor ix r = true := by
  unfold State.takenCircuit at h
  split at h
  · rename_i d hd
    split at h
    · rename_i hc
      simp only [Bool.and_eq_true, decide_eq_true_eq] at hc
      obtain ⟨⟨h1, h2⟩, h3⟩ := hc
      cases h
      exact ⟨⟨d, hd, h1, h2, rfl⟩, h3⟩
    · cases h
  · cases h

/-- CANCEL where a circuit has taken the command: the circuit clears forward. -/
theorem State.cancelInDispatch_taken (ix : HuntIx) (r : Reference) (h : s.takenCircuit ix r = some x) :
    s.cancelInDispatch ix r = (s.setDispatch none).clearForward x cancelledByCancel := by
  simp [State.cancelInDispatch, h]

/-- CANCEL where none has: the slot is marked. -/
theorem State.cancelInDispatch_marks (ix : HuntIx) (r : Reference) (h : s.takenCircuit ix r = none) :
    s.cancelInDispatch ix r = s.putHuntSlot ix { s.huntSlot ix with cancelMark := true } := by
  simp [State.cancelInDispatch, h]

/-- A seize command taken for a station's offer leaves the hunt slots alone. -/
theorem State.seizeTaken_foreign (d : Dispatch) (origin : Station) (tag : Tag) (h : d.request.source = .foreign origin tag) :
    s.seizeTaken d = s.setDispatch none := by
  simp [State.seizeTaken, h]

/-! ### Transactions of the order port (R160, Table 12-1) -/

/-- A listed kind stands for its order. -/
theorem orderCommand_listed (kind : Byte) (fields : List Byte) (c : Instr) (h : orderOfKind kind.toNat fields = some c) :
    orderCommand kind fields = c := by
  simp [orderCommand, h]

/-- Any other kind is an unknown order. -/
theorem orderCommand_unknown (kind : Byte) (fields : List Byte) (h : orderOfKind kind.toNat fields = none) :
    orderCommand kind fields = .unknownOrder kind fields := by
  simp [orderCommand, h]

/-- A transaction with all its field bytes is its order, whatever follows. -/
theorem readTransaction_whole (kind len : Byte) (fields more : List Byte) (h : fields.length = len.toNat) :
    readTransaction (kind :: len :: (fields ++ more)) = orderCommand kind fields := by
  simp [readTransaction, ← h]

end Sys2Proof.Machine
end

