-- ==== Sys2Proof/Tests/Slice0.lean ====
section
/-! SUPPORT. Tests of the model: ill-formed commands refused, one step of each command with its result taken from the rule named
beside it, and for each statement with hypotheses a state that meets them. -/

namespace Sys2Proof.Tests

open Sys2Proof Sys2Proof.Machine

set_option Elab.async false

/-! ### States for the tests -/

/-- An IDLE circuit that sends and hears 0. -/
def idleCircuit : Circuit := { Circuit.reset with phase := .idle, sendCode := 0 }

/-- Station 0 of a ring of two in RUN, every circuit IDLE, station 1 present, highway PRESENT. -/
def running : State :=
  { State.reset with
    partPhase := .run
    circuits := Vector.replicate 48 idleCircuit
    highway := { present := true, goodRun := 8, silence := 0, lead := 0 }
    hunt := { Hunt.reset with free := 48, level := some 3 }
    settings := { Settings.reset with station := { Settings.reset.station with ring := 2 } }
    bus := { Bus.reset with
      state := .active
      recessiveRun := 11
      view := Vector.ofFn fun st : Station =>
        if st = 1 then some { present := true, level := some 3, free := 10, phase := .run, age := 2 } else none
      announce := some 50 } }

/-- `running` with this record at slot 5. -/
def on (c : Circuit) : State := running.writeCircuit 5 c

/-- The next sample of slot 5 completes the acceptance of a code, the count one below the threshold. -/
def hears (x : Code) (s : State) : State :=
  let c := s.circuit 5
  (s.writeCircuit 5 { c with recog :=
    { accepted := c.recog.accepted, candidate := x, count := threshold (s.profile 5) c.phase x - 1 } }).setEvents
    { s.events with samples := [{ slot := 5, code := some x, valid := true }] }

/-- A record with a timer that has expired. -/
def expired (p : Purpose) (c : Circuit) : Circuit := { c with timer := some { purpose := p, remaining := 0, paused := false } }

/-- A record that has accepted a code. -/
def holding (x : Code) (c : Circuit) : Circuit := { c with recog := Recognizer.holding x }

/-- A call of slot 2, reference 7, with digits 4 and 0 of a complete number. -/
def hostCall : CallFields :=
  { CallFields.reset with
    owner := some (.ofHost 2 7)
    send := { SendQueue.reset with digits := [4, 0], complete := true } }

/-- A circuit in OUT-SEIZING with a bound request. -/
def seizing : Circuit :=
  { idleCircuit with
    phase := .outSeizing
    sendCode := 12
    call := { hostCall with bound := some { cls := 1, category := 0, repeatUsed := false, visited := 1 } } }

/-- The same for a FOREIGN request of station 1, tag 9. -/
def seizingForeign : Circuit := { seizing with call := { seizing.call with owner := some (.foreign 1 9) } }

/-- A circuit in OUT-REGISTER at a step, with a pending request. -/
def outRegister (t : RegStep) (request : Option Code) : Circuit :=
  { idleCircuit with
    phase := .outRegister
    sendCode := 12
    call := { hostCall with
      step := some t
      send := { hostCall.send with pointer := 1, last := .digit 0, request := request } } }

/-- A circuit of the host's call in a phase that has no step. -/
def outCircuit (p : Phase) : Circuit := { idleCircuit with phase := p, sendCode := 12, call := hostCall }

/-- An incoming call in a phase and step with a receive buffer. -/
def incoming (p : Phase) (t : Option RegStep) (b : ReceiveBuffer) : Circuit :=
  holding 12 { idleCircuit with
    phase := p
    sendCode := 1
    call := { CallFields.reset with owner := some .incoming, step := t, buffer := b } }

/-- A buffer with a last response. -/
def answered (r : Code) : ReceiveBuffer := { ReceiveBuffer.reset with lastResponse := some r }

/-- A buffer of n digits with a limit. -/
def full (n limit : Nat) : ReceiveBuffer := { ReceiveBuffer.reset with digits := List.replicate n 3, limit := limit }

/-- Span 0 with another record; slot 5 lies in it. -/
def onSpan (g : Span) (s : State) : State := s.putSpan 0 g

/-- A FAILED span. -/
def failedSpan : Span := { Span.reset with condition := .failed }

/-- Profile 0, of every span, under DEFAULT. -/
def underDefault (s : State) : State :=
  s.setSettings { s.settings with profiles := Vector.replicate 4 { Profile.reset with policy := .default } }

/-- Hunt slot 2 with a state and mark, held by reference 7. -/
def slot2 (st : SlotState) (mark : Bool) (s : State) : State :=
  s.putHuntSlot 2
    { state := st, reference := some 7, circuit := if st = .seizing then some 5 else none, cancelMark := mark }

/-- The request of hunt slot 2, or of station 1's offer 9. -/
def request (source : Source) (repeatUsed : Bool) : Request :=
  { source := source, cls := 1, category := 0, digits := [4, 0], complete := true, visited := 1, repeatUsed := repeatUsed }

/-- Requests in the hunt queue. -/
def queued (qs : List Request) (s : State) : State := s.setHunt { s.hunt with queue := qs }

/-- A request in dispatch at slot 5. -/
def dispatched (q : Request) (stage : SeizeStage) (s : State) : State :=
  s.setHunt { s.hunt with dispatch := some { request := q, circuit := 5, stage := stage } }

/-- A free count. -/
def free (n : Nat) (s : State) : State := s.setHunt { s.hunt with free := n }

/-- A live offer with a tag for slot 2, to station 1. -/
def entry (tag : Tag) (timer : Nat) (pending : Bool) : OfferEntry :=
  { tag := tag, slot := 2, reference := 7, cls := 1, category := 0, digits := [4, 0], complete := true, visited := 1,
    target := 1, timer := timer, pending := pending }

/-- Live offers. -/
def offering (es : List OfferEntry) (s : State) : State := s.setOffers { table := es, tagCounter := 10 }

/-- The OFFER body of an origin. -/
def offerOf (origin : Station) (visited : StationSet) : OfferBody :=
  { origin := origin, tag := 9, cls := 1, category := 0, digits := [4, 0], complete := true, visited := visited }

/-- A frame from station 1 passed to the offer unit. -/
def arrived (b : FrameBody) (s : State) : State :=
  s.setEvents { s.events with arrived := [{ source := 1, body := b }] }

/-- An outcome of a frame to station 1 handed to the offer unit. -/
def outcome (delivered : Bool) (b : FrameBody) (s : State) : State :=
  s.setEvents { s.events with outcomes := [{ delivered := delivered, frame := { dest := 1, body := b } }] }

/-- A request returned by slot 5. -/
def returned (q : Request) (s : State) : State :=
  s.setEvents { s.events with returned := [{ slot := 5, reason := .noAck, request := q }] }

/-- The bus with another record. -/
def onBus (f : Bus → Bus) (s : State) : State := s.setBus (f s.bus)

/-- A directed frame to station 1 in the send queue. -/
def waitingFrame (attempts : Nat) (sending dropped : Bool) : Queued :=
  { frame := { dest := 1, body := .exhausted 9 }, attempts := attempts, sending := sending, dropped := dropped }

/-- Reports waiting to be fetched. -/
def reporting (rs : List Report) (s : State) : State := s.setReports { s.reports with queue := rs }

/-- Valid bit of span 0. -/
def validBit (v : Bool) (s : State) : State := s.setEvents { s.events with validBits := [{ span := 0, valid := v }] }

/-- Span actions that wait at slot 5, in this order. -/
def acting (ks : List ActionKind) (s : State) : State :=
  s.setEvents { s.events with actions := ks.map fun k => { slot := 5, kind := k } }
def failing (s : State) : State := acting [.failure] s
def restoring (s : State) : State := acting [.restoration] s
def losing (s : State) : State := acting [.callLoss] s

/-- The state after a command. -/
def after (c : Instr) (s : State) : State :=
  match exec c s with
  | .next t => t
  | .fault _ => s
  | .refused _ => s

/-- The status of the reply to an order. -/
def status (c : Instr) (s : State) : Option Status := (after c s).port.reply.map Reply.status

/-- The phase and send code of slot 5 after a command. -/
def line (c : Instr) (s : State) : Phase × Code := let d := (after c s).circuit 5; (d.phase, d.sendCode)

/-- The kinds of the waiting reports, with their details, after a command. -/
def told (c : Instr) (s : State) : List (ReportKind × Nat × Nat) :=
  (after c s).reports.queue.map fun r => (r.kind, r.detail1, r.detail2)

/-- C for circuit 5 with ANY phase. -/
def five : List Byte := [0, 5, 0]

/-! ### Ill-formed commands are refused -/

theorem test_whole_order_is_not_discarded : (Instr.orderDiscarded [8, 0]).wellFormed = false := by decide
theorem test_cut_order_is_discarded : (Instr.orderDiscarded [4, 1]).wellFormed = true := by decide
theorem test_listed_kind_is_not_unknown : (Instr.unknownOrder 23 []).wellFormed = false := by decide
theorem test_unlisted_kind_is_unknown : (Instr.unknownOrder 24 []).wellFormed = true := by decide
theorem test_too_many_field_bytes : (Instr.go (List.replicate 256 0)).wellFormed = false := by decide +kernel
theorem test_no_start_bit : (Instr.busFrameReceived (List.replicate 12 true)).wellFormed = false := by decide

/-! ### The reset state and the decoder of table words -/

theorem test_no_word_spells_a_command : decodeTableWord 8 1 = none := by decide
theorem test_empty_queue_idles : State.reset.pending = [] := by decide
theorem test_reset_shaped : State.reset.Shaped := by unfold State.Shaped; decide
/-- R5: after power-on every slot sends 14. -/
theorem test_reset_sends_14 : State.reset.sendPortion = Vector.replicate 48 14 := by decide +kernel

/-! ### Reset input and highway -/

/-- R174. -/
theorem test_resetInputAsserted : (after .resetInputAsserted running).partPhase = .config
    ∧ (after .resetInputAsserted running).inReset = true := by decide
/-- R174: the straps are latched. -/
theorem test_resetRelease : (after (.resetRelease 5) running).station = 5
    ∧ (after (.resetRelease 5) running).bus.state = .silent := by decide
/-- R3: the eighth good multiframe makes the highway PRESENT; 125 µs late is still good. -/
theorem test_completedMultiframe :
    (after (.completedMultiframe ⟨34816, 0⟩ (Vector.replicate 48 0) (Vector.replicate 3 true))
      (running.setHighway { present := false, goodRun := 7, silence := 0, lead := 0 })).highway.present = true := by decide
/-- R3: one clock period later the run starts again at 1. -/
theorem test_completedMultiframe_late :
    (after (.completedMultiframe ⟨34817, 0⟩ (Vector.replicate 48 0) (Vector.replicate 3 true))
      (running.setHighway { present := false, goodRun := 7, silence := 0, lead := 0 })).highway.goodRun = 1 := by decide
/-- R3: the spacing is of markers. Ends 2 ms apart fail where the markers are 126 µs more, and ends 2.5 ms apart pass where they are
not. -/
theorem test_spacing_of_markers :
    let ended (elapsed lead : Nat) := (after (.completedMultiframe ⟨elapsed, lead⟩ (Vector.replicate 48 0) (Vector.replicate 3 true))
      (running.setHighway { present := false, goodRun := 3, silence := 0, lead := 10000 })).highway.goodRun
    ended 32768 7936 = 1 ∧ ended 32768 7952 = 4 ∧ ended 40960 18192 = 4 ∧ ended 40960 10000 = 1 := by decide +kernel
/-- R3. -/
theorem test_multiframeNotCompleted : (after (.multiframeNotCompleted 100)
    (running.setHighway { present := false, goodRun := 7, silence := 0, lead := 0 })).highway.goodRun = 0 := by decide
/-- R3: the silence interval reaches 6 ms, 98304 clock periods. -/
theorem test_silence_reaches_6ms : (after (.multiframeNotCompleted 98303) running).highway.present = true
    ∧ (after (.multiframeNotCompleted 98304) running).highway.present = false
    ∧ (after (.completedMultiframe ⟨98304, 0⟩ (Vector.replicate 48 0) (Vector.replicate 3 true)) running).events.samples.map
        SampleEvent.code = List.replicate 48 none := by decide +kernel
/-- R4: a substitute multiframe has 48 samples without a code. -/
theorem test_highwayLost : (after .highwayLost running).highway.present = false
    ∧ (after .highwayLost running).events.samples.length = 48 := by decide
/-- R4. -/
theorem test_substituteMultiframe : (after (.substituteMultiframe 32768)
    (running.setHighway { present := false, goodRun := 0, silence := 98304, lead := 0 })).events.validBits =
      [{ span := 0, valid := false }, { span := 1, valid := false }, { span := 2, valid := false }] := by decide

/-! ### Recognition and the circuit engine -/

/-- R35: a 12 accepted in IDLE is a seizure: PROCEED (1) is sent. -/
theorem test_sample_seizes : line (.sample 5) (hears 12 running) = (.inRegister, 1) := by decide +kernel
/-- R17: a sample equal to the accepted code lowers the count by 2, not below 0. -/
theorem test_sample_integrator_falls : (((after (.sample 5)
    ((on { idleCircuit with recog := { accepted := 0, candidate := 12, count := 1 } }).setEvents
      { Events.none with samples := [{ slot := 5, code := some 0, valid := true }] })).circuit 5).recog.count) = 0 := by
  decide +kernel
/-- R12: the counter wraps. -/
theorem test_tickBoundary : (after .tickBoundary (running.setTick 0xFFFFFFFF)).tick = 0 := by decide +kernel
/-- R33: LOCKOUT sends 14 and the request returns. -/
theorem test_ackExpiry : line (.ackExpiry 5) (on (expired .ack seizing)) = (.lockout, 14)
    ∧ (after (.ackExpiry 5) (on (expired .ack seizing))).events.returned.map ReturnEvent.reason = [.noAck] := by
  decide +kernel
/-- R65: position 1 is SIGNAL-ON. -/
theorem test_compelExpiryOutgoing :
    line (.compelExpiryOutgoing 5) (on (expired .compel (outRegister .signalOn none))) = (.outReleasing, 0)
    ∧ told (.compelExpiryOutgoing 5) (on (expired .compel (outRegister .signalOn none))) = [(.registerTimeout, 1, 0)] := by
  decide +kernel
/-- R81: CONGESTION (9) is sent where no refusal stands on the line. -/
theorem test_compelExpiryIncoming : line (.compelExpiryIncoming 5)
    (on (expired .compel (incoming .inRegister (some .awaitSignal) (full 1 2)))) = (.inFailed, 9) := by decide +kernel
/-- R69: DIGIT-TIMEOUT carries the digits sent. -/
theorem test_digitTimeout : told (.digitTimeout 5) (on (expired .digit (outRegister .digitWait none))) =
    [(.digitTimeout, 2, 0)] := by decide +kernel
/-- R79: RESPONSE-TIMEOUT answers CONGESTION (9) and the cycle goes on. -/
theorem test_responseTimeout : line (.responseTimeout 5)
    (on (expired .response (incoming .inRegister (some .hostWait) (full 3 2)))) = (.inRegister, 9) := by decide +kernel
/-- R45. -/
theorem test_noAnswer : line (.noAnswer 5) (on (expired .answer (outCircuit .outAwaitAnswer))) = (.outReleasing, 0) := by
  decide +kernel
/-- R45. -/
theorem test_forcedRelease : told (.forcedRelease 5) (on (expired .clearback (outCircuit .outClearedBack))) =
    [(.forcedRelease, 0, 0)] := by decide +kernel
/-- R49: not freed in time, LOCKOUT. -/
theorem test_releaseExpiryReleasing : line (.releaseExpiryReleasing 5)
    (on (expired .release (holding 1 (outCircuit .outReleasing)))) = (.lockout, 14) := by decide +kernel
/-- R56: a standing 14 resets into IDLE, remote-blocked. -/
theorem test_releaseExpiryResetting : ((after (.releaseExpiryResetting 5)
    (on (expired .release (holding 14 { idleCircuit with phase := .resetting })))).circuit 5).remoteBlocked = true := by
  decide +kernel
/-- R82. -/
theorem test_noClearForward : line (.noClearForward 5)
    (on (expired .release (incoming .inFailed none (full 0 0)))) = (.resetting, 0) := by decide +kernel
/-- R51: a 12 standing at the end of the guard is a seizure. -/
theorem test_guardExpiry : line (.guardExpiry 5) (on (expired .guardTime (incoming .inGuard none (full 0 0)))) =
    (.inRegister, 1) := by decide +kernel
/-- R179: the last circuit brings RUN and RESTART-DONE with the equipped count. -/
theorem test_restartExpiry :
    told (.restartExpiry 5) { on (expired .restart { idleCircuit with phase := .restarting, sendCode := 14 }) with
      partPhase := .starting, restarting := 1 } = [(.restartDone, 48, 0)] := by decide +kernel

/-! ### Spans -/

/-- R148, R150: the 50th invalid multiframe fails the span. -/
theorem test_spanValidBit : ((after (.spanValidBit 0) (validBit false (onSpan { Span.reset with run := 49 } running))).span 0) =
    { condition := .failed, run := 0, quiesce := .none, holdTimer := some 1000 } := by decide +kernel
/-- R151: a call on a span under HOLD is held and goes on sending. -/
theorem test_spanFailureAction :
    line (.spanFailureAction 5) (failing (onSpan failedSpan (on (outCircuit .outAnswered)))) = (.outAnswered, 12)
    ∧ ((after (.spanFailureAction 5) (failing (onSpan failedSpan (on (outCircuit .outAnswered))))).circuit 5).call.held = true := by
  decide +kernel
/-- R155: the 12 held through the failure is taken. -/
theorem test_restorationAction : line (.restorationAction 5) (restoring (on (holding 12 idleCircuit))) = (.inRegister, 1) := by
  decide +kernel
/-- R154. -/
theorem test_callLossAction : line (.callLossAction 5) (losing (onSpan failedSpan
    (on { outCircuit .outAnswered with call := { hostCall with held := true } }))) = (.resetting, 0) := by decide +kernel
/-- R154. -/
theorem test_holdTimeExpiry : (after (.holdTimeExpiry 0)
    (onSpan { failedSpan with holdTimer := some 0 } running)).events.actions =
      (List.finRange 16).map fun ch => { slot := slotOf 0 ch, kind := .callLoss } := by decide +kernel
/-- R159: the expiry came first, so the held call is lost and the restoration waits behind it. -/
theorem test_expiry_before_restoration :
    let s := acting [.callLoss, .restoration] (on { outCircuit .outAnswered with call := { hostCall with held := true } })
    after (.restorationAction 5) s = s ∧ line (.callLossAction 5) s = (.resetting, 0) := by decide +kernel
/-- R155: a 12 accepted before the restoration action is held, and taken by the action. -/
theorem test_restoration_pending : let s := restoring (hears 12 running)
    line (.sample 5) s = (.idle, 0) ∧ told (.sample 5) s = []
    ∧ line (.restorationAction 5) (after (.sample 5) s) = (.inRegister, 1) := by decide +kernel

/-- Log entry 40: a blocked circuit whose 12 stands reports it at the restoration, whatever it reported before. -/
theorem test_restoration_reports_standing_12 :
    told (.restorationAction 5) (restoring (on (holding 12 { idleCircuit with hostBlock := true, sendCode := 14 }))) =
      [(.seizedWhileBlocked, 1, 0)] := by decide +kernel
/-- Log entry 41: a circuit that ends its guard on a standing 12 does not raise the level on its way. -/
theorem test_guard_passes_idle :
    let s := free 0 (on (expired .guardTime (holding 12 { idleCircuit with phase := .inGuard, sendCode := 13 })))
    (after (.guardExpiry 5) s).bus.levelSlot = none ∧ (after (.guardExpiry 5) s).hunt.free = 0 := by decide +kernel

/-! ### Hunting -/

/-- R31: an eligible circuit sends 12. -/
theorem test_seizeCommand : line .seizeCommand (dispatched (request (.ofHost 2 7) false) .inFlight (slot2 .waiting false running)) =
    (.outSeizing, 12) := by decide +kernel
/-- R106. -/
theorem test_seizeCommandOutcome : ((after .seizeCommandOutcome
    (dispatched (request (.ofHost 2 7) false) .taken (slot2 .waiting false (on seizing)))).huntSlot 2).state = .seizing := by
  decide +kernel
/-- R107: the repeat goes to the head of the queue. -/
theorem test_requestReturn : (after (.requestReturn 5) (returned (request (.ofHost 2 7) false)
    (queued [request (.foreign 1 9) false] (slot2 .seizing false running)))).hunt.queue.map Request.source =
      [.ofHost 2 7, .foreign 1 9] := by decide +kernel
/-- R105: of even numbers the lowest, under ASCENDING and the even parity. -/
theorem test_dispatch : (after .dispatch (queued [request (.ofHost 2 7) false] (slot2 .waiting false running))).hunt.dispatch.map
    Dispatch.circuit = some 0 := by decide +kernel

/-! ### Station bus and offers -/

/-- R124: a frame whose check is wrong is counted. -/
theorem test_busFrameReceived_bad : (after (.busFrameReceived (false :: List.replicate 8 true ++ List.replicate 6 false))
    running).bus.checkErrors = 1 := by decide +kernel
/-- R128: the LEVEL frame of the neighbour enters the view. -/
theorem test_busFrameReceived : ((after (.busFrameReceived
    (({ level := none, free := 0, phase := .run } : LevelFrame).raw 1).line) running).bus.view[1]).map ViewRecord.level =
      some none := by decide +kernel
/-- R138: an offer whose visited set already holds this station is answered EXHAUSTED. -/
theorem test_offerReceived : (after .offerReceived (arrived (.offer (offerOf 1 1)) running)).bus.queue.map Queued.frame =
    [{ dest := 1, body := .exhausted 9 }] := by decide +kernel
/-- R141: a late GRANT is answered WITHDRAW. -/
theorem test_grantReceived : (after .grantReceived (arrived (.grant 9 20) running)).bus.queue.map Queued.frame =
    [{ dest := 1, body := .withdraw 9 20 }] := by decide +kernel
/-- R141, Table 12-4: HUNT-CONGESTION, reason 4. -/
theorem test_exhaustedReceived : told .exhaustedReceived
    (arrived (.exhausted 9) (offering [entry 9 5 false] (slot2 .offered false running))) = [(.huntCongestion, 4, 0)] := by
  decide +kernel
/-- R142. -/
theorem test_withdrawReceived : line .withdrawReceived (arrived (.withdraw 9 5)
    (on { outCircuit .outAwaitAnswer with call := { hostCall with owner := some (.foreign 1 9) } })) = (.outReleasing, 0) := by
  decide +kernel
/-- R123, Table 7-3: the LEVEL frame is sent when no directed frame waits. -/
theorem test_frameTransmit :
    let f : LevelFrame := { level := some 3, free := 48, phase := .run }
    (after (.frameTransmit [] (f.raw 0).compared)
      (onBus (fun b => { b with levelSlot := some f }) running)).bus.onLine = some .level := by decide +kernel
/-- R115: a start bit in the line of FRAME_TRANSMIT stops the sending; the frame it starts is received by the next command. -/
theorem test_frameTransmit_start : let f : LevelFrame := { level := none, free := 0, phase := .run }
    let bits := (f.raw 1).line
    let s := after (.frameTransmit (bits.take 3) []) (onBus (fun b => { b with levelSlot := some f }) running)
    s.bus.onLine = none
    ∧ ((after (.busFrameReceived (bits.drop 3)) s).bus.view[1]).map ViewRecord.level = some none := by decide +kernel
/-- R117, R124: 24 dominant bit times in the line of FRAME_TRANSMIT bring FAULT; the frame they start fails its check. -/
theorem test_frameTransmit_stuck : let s := after (.frameTransmit (List.replicate 24 false) []) running
    s.bus.state = .fault ∧ s.bus.checkErrors = 1 ∧ s.bus.reception = [] := by decide +kernel
/-- R122: a missing acknowledge counts one attempt. -/
theorem test_acknowledgeSlot : (after (.acknowledgeSlot true) (onBus (fun b =>
    { b with queue := [waitingFrame 0 true false], onLine := some .directed }) running)).bus.queue =
      [waitingFrame 1 false false] := by decide +kernel
/-- R135: with no further candidate the slot ends, HUNT-CONGESTION, reason 3. -/
theorem test_originOfferOutcome : told .originOfferOutcome (outcome false (.offer (offerOf 0 1))
    (offering [entry 9 5 true] (slot2 .offered false running))) = [(.huntCongestion, 3, 0)] := by decide +kernel
/-- R139: an offer that cannot be sent on is answered EXHAUSTED at its origin. -/
theorem test_forwardedOfferOutcome : (after .forwardedOfferOutcome (outcome false (.offer (offerOf 3 1))
    running)).bus.queue.map Queued.frame = [{ dest := 3, body := .exhausted 9 }] := by decide +kernel
/-- R140: WITHDRAWN, cause 1. -/
theorem test_grantOutcome : told .grantOutcome (outcome false (.grant 9 5)
    (on { outCircuit .outAnswered with call := { hostCall with owner := some (.foreign 1 9) } })) = [(.withdrawn, 1, 0)] := by
  decide +kernel
/-- R117, R124: 24 dominant bit times; the frame that they start fails its check and leaves nothing in reception. -/
theorem test_busStuck : let s := after (.busStuck (List.replicate 24 false)) running
    s.bus.state = .fault ∧ s.bus.checkErrors = 1
    ∧ (after (.busRecovered (List.replicate 11 true)) s).bus.maySend = true := by decide +kernel
/-- R117: 11 recessive bit times. -/
theorem test_busRecovered : (after (.busRecovered (List.replicate 11 true))
    (onBus (fun b => { b with state := .fault }) running)).bus.state = .active := by decide +kernel
/-- R129: at age 3 the neighbour is absent; STATION-ABSENT, reason 1. -/
theorem test_announceExpiry : told .announceExpiry (onBus (fun b => { b with announce := some 0 }) running) =
    [(.stationAbsent, 1, 0)] := by decide +kernel
/-- R137. -/
theorem test_offerTimeExpiry : told (.offerTimeExpiry 9) (offering [entry 9 0 false] (slot2 .offered false running)) =
    [(.huntTimeout, 1, 0)] := by decide +kernel

/-! ### Orders -/

/-- Table 12-1: every kind byte stands for its order. -/
theorem test_kinds : (List.range 23).map (fun k => readTransaction [BitVec.ofNat 8 (k + 1), 0]) =
    [.setProfile [], .setStation [], .setSpan [], .go [], .readConfig [], .readStatus [], .readView [], .fetchReport [],
     .clearErrors [], .restart [], .readCircuit [], .hunt [], .cancel [], .quiesceSpan [], .resumeSpan [], .addDigits [],
     .respond [], .answer [], .clearBack [], .clearForward [], .block [], .unblock [], .resetCircuit []] := by decide
/-- R160: bytes after the order's last byte are ignored; fewer are a discarded order. -/
theorem test_transaction : readTransaction [21, 3, 0, 5, 0, 9] = .block five
    ∧ readTransaction [21, 3, 0, 5] = .orderDiscarded [21, 3, 0, 5] ∧ readTransaction [24, 0] = .unknownOrder 24 [] := by decide
/-- R161: a discarded order leaves the fill on the data-out line. -/
theorem test_orderDiscarded : (after (.orderDiscarded [4]) (after (.readStatus []) running)).port.replyStands = false := by
  decide +kernel
/-- R162. -/
theorem test_unknownOrder : status (.unknownOrder 24 []) running = some .unknownOrder := by decide
/-- R176: a persistence of 0 becomes 2. -/
theorem test_setProfile : status (.setProfile (0 :: List.replicate 24 0)) State.reset = some .clamped
    ∧ (after (.setProfile (0 :: List.replicate 24 0)) State.reset).settings.profiles[0].idlePersist = 2 := by decide
/-- R176: thresholds in two passes. -/
theorem test_setStation : (let st := (after (.setStation [8, 0, 0, 60, 5, 10, 50, 1, 0, 0, 200]) State.reset).settings.station
    (st.r1, st.r2, st.r3)) = (47, 47, 47) := by decide
/-- R175. -/
theorem test_setSpan : ((after (.setSpan [1, 0, 32, 0, 255, 2]) State.reset).spanSettings 1) =
    { base := 32, equipped := 255, profile := 2 } := by decide
/-- R177: a base repeated. -/
theorem test_go_repeated : status (.go []) (after (.setSpan [1, 0, 0, 0, 255, 2]) State.reset) = some .badConfig := by
  decide +kernel
/-- R178. -/
theorem test_go : (after (.go []) State.reset).partPhase = .starting ∧ (after (.go []) State.reset).restarting = 48 := by
  decide +kernel
/-- R166: selector 8 is out of range. -/
theorem test_readConfig : status (.readConfig [8]) running = some .malformed
    ∧ status (.readConfig [7]) running = some .done := by decide
/-- 12.2. -/
theorem test_readStatus : ((after (.readStatus []) running).port.reply.map fun r => r.body.bytes) =
    some [2, 1, 0, 48, 3, 0, 0, 0, 0, 0, 0, 0, 0, 0, 0] := by decide +kernel
/-- 12.2: present in RUN, level 3, 10 free, age 2. -/
theorem test_readView : ((after (.readView []) running).port.reply.map fun r => r.body.bytes) = some [1, 5, 3, 10, 2] := by
  decide +kernel
/-- Table 12-3: CLEAR-FORWARD (22) of circuit 5, now in IN-GUARD (14) without a step; the call was in phase 12. -/
theorem test_reportBytes : reportBytes ((running.setTick 258).says .clearForward 5 (incoming .inGuard none (full 0 0)) 12) =
    [22, 0, 0, 1, 2, 0x88, 12, 0, 0, 5, 14, 0] := by decide +kernel
/-- R172: the hunt outcome fetched frees its slot. -/
theorem test_fetchReport : ((after (.fetchReport []) (reporting
    [{ running.report .huntCancelled with reference := some 7 }] (slot2 .ended false running))).huntSlot 2).state = .free := by
  decide +kernel
/-- R167. -/
theorem test_clearErrors : ((after (.clearErrors []) (onBus (fun b => { b with checkErrors := 9 }) running)).bus.checkErrors,
    (after (.clearErrors []) (onBus (fun b => { b with checkErrors := 9 }) running)).port.reply) =
      (0, some { status := .done, body := .checkErrors 9 }) := by decide
/-- R180. -/
theorem test_restart : (after (.restart []) (reporting [running.report .lockout] running)).reports.queue = [] := by
  decide +kernel
/-- R162: no circuit 48. -/
theorem test_readCircuit : status (.readCircuit [0, 48, 0]) running = some .noSuchCircuit
    ∧ status (.readCircuit five) running = some .done := by decide +kernel
/-- R99, R100. -/
theorem test_hunt : ((after (.hunt [0, 7, 1, 1, 1, 2, 0x40]) running).hunt.queue.map Request.digits) = [[4, 0]] := by
  decide +kernel
/-- R110. -/
theorem test_cancel : told (.cancel [0, 7]) (queued [request (.ofHost 2 7) false] (slot2 .waiting false running)) =
    [(.huntCancelled, 1, 0)] := by decide +kernel
/-- R156: an idle span is quiesced at once. -/
theorem test_quiesceSpan : ((after (.quiesceSpan [0]) running).span 0).quiesce = .quiesced
    ∧ line (.quiesceSpan [0]) running = (.idle, 14) := by decide +kernel
/-- R158. -/
theorem test_resumeSpan : line (.resumeSpan [0]) (onSpan { Span.reset with quiesce := .quiesced }
    (on { idleCircuit with quiesceBlock := true, sendCode := 14 })) = (.idle, 0) := by decide +kernel
/-- R67: digits joined in DIGIT-WAIT send the next item, the digit at the pointer. -/
theorem test_addDigits : line (.addDigits (five ++ [0, 1, 0x3F]))
    (on { outRegister .digitWait none with call := { (outRegister .digitWait none).call with
      send := { SendQueue.reset with digits := [4], pointer := 1, last := .digit 0 } } }) = (.outRegister, 3) := by decide +kernel
/-- R77: RESTART-NUMBER (4) empties the buffer. -/
theorem test_respond : (((after (.respond (five ++ [4, 255]))
    (on (incoming .inRegister (some .hostWait) (full 3 2)))).circuit 5).call.buffer.digits) = [] := by decide +kernel
/-- R37: answer (11) is sent. -/
theorem test_answer : line (.answer five) (on (incoming .inAwaitAnswer none (answered 6))) = (.inAnswered, 11) := by
  decide +kernel
/-- R37. -/
theorem test_clearBack : line (.clearBack five) (on (incoming .inAnswered none (answered 6))) = (.inClearedBack, 12) := by
  decide +kernel
/-- R47, R109: HUNT-CANCELLED, reason 2, for the request bound in OUT-SEIZING. -/
theorem test_clearForward : line (.clearForward five) (slot2 .seizing false (on seizing)) = (.outReleasing, 0)
    ∧ told (.clearForward five) (slot2 .seizing false (on seizing)) = [(.huntCancelled, 2, 0)] := by decide +kernel
/-- R90. -/
theorem test_block : line (.block five) running = (.idle, 14) ∧ (after (.block five) running).hunt.free = 47 := by decide +kernel
/-- R91: the last reason leaves and a standing 12 is a seizure. -/
theorem test_unblock : line (.unblock five) (on (holding 12 { idleCircuit with hostBlock := true, sendCode := 14 })) =
    (.inRegister, 1) := by decide +kernel
/-- R54. -/
theorem test_resetCircuit : line (.resetCircuit five) running = (.resetting, 0)
    ∧ status (.resetCircuit five) State.reset = some .wrongPartPhase := by decide +kernel

/-! ### States that meet the hypotheses of the statements, one for each clause -/

theorem witness_StepTakesFrontCommand : (running.setPending [.dispatch]).pending = .dispatch :: [] := by decide

theorem witness_NoEventChangesNothing :
    State.reset.pending = []
    ∧ (State.reset.setInReset true).inReset = true ∧ Instr.dispatch ≠ .resetInputAsserted
    ∧ (∀ straps, Instr.dispatch ≠ .resetRelease straps)
    ∧ running.inReset = false
    ∧ (∀ p ∈ [Purpose.ack, .compel, .digit, .response, .answer, .clearback, .release, .guardTime, .restart],
        ¬ (on { idleCircuit with timer := some { purpose := p, remaining := 1, paused := false } }).Expired 5 p)
    ∧ (∀ ks ∈ [[], [ActionKind.failure, .restoration], [.restoration], [.callLoss]],
        (acting ks running).inReset = false
        ∧ ((acting ks running).events.actions.find? fun a => a.slot = 5).map SpanAction.kind = ks.head?)
    ∧ running.events = Events.none ∧ running.hunt.dispatch = none ∧ running.hunt.queue = [] := by decide

/-- `running` with a highway record. -/
def highway (present : Bool) (goodRun silence : Nat) (s : State) : State :=
  s.setHighway { present := present, goodRun := goodRun, silence := silence, lead := 0 }

theorem witness_HighwayMultiframes :
    (∀ e ∈ [(true, 0, 98303), (true, 98303, 0), (true, 0, 98304), (true, 98303, 1), (true, 98304, 0), (false, 0, 34816),
        (false, 30000, 720), (false, 98304, 32768)],
      (highway e.1 7 e.2.1 running).inReset = false ∧ (highway e.1 7 e.2.1 running).highway.present = e.1
      ∧ (highway e.1 7 e.2.1 running).highway.silence + e.2.2 = e.2.1 + e.2.2)
    ∧ (highway true 8 98304 running).highway.silence ≤ 98304
    ∧ running.partPhase ≠ .config ∧ (highway true 8 0 State.reset).inReset = false
    ∧ (highway true 8 0 State.reset).highway.present = true ∧ (highway true 8 0 State.reset).partPhase = .config
    ∧ State.reset.highway.present = false
    ∧ (∀ e ∈ [(30720, 0, 0), (34816, 0, 0), (30719, 5, 4), (34817, 4, 5)],
        30720 + e.2.2 ≤ e.1 + e.2.1 ∧ e.1 + e.2.1 ≤ 34816 + e.2.2)
    ∧ ¬ 30720 + 4 ≤ 30720 + 3 ∧ ¬ 34816 + 4 ≤ 34816 + 3 := by decide

/-- Slot 5 with a candidate, and one sample handed to it. -/
def sampled (code : Option Code) (valid : Bool) (count : Nat) : State :=
  (on { idleCircuit with recog := { accepted := 0, candidate := 12, count := count } }).setEvents
    { Events.none with samples := [{ slot := 5, code := code, valid := valid }] }

theorem witness_SampleStepsRecognizer :
    running.profile 5 = Profile.reset ∧ threshold Profile.reset .idle 0 = 50 ∧ threshold Profile.reset .inRegister 0 = 50
    ∧ threshold Profile.reset .outRegister 15 = 25 ∧ threshold Profile.reset .outRegister 1 = 4
    ∧ threshold Profile.reset .inRegister 14 = 4 ∧ threshold Profile.reset .outSeizing 1 = 10
    ∧
    (sampled none false 1).inReset = false
    ∧ (sampled none false 1).NextSample 5 { slot := 5, code := none, valid := false }
    ∧ (sampled (some 0) true 1).NextSample 5 { slot := 5, code := some 0, valid := true }
    ∧ (sampled (some 0) true 1).circuit 5 = { idleCircuit with recog := { accepted := 0, candidate := 12, count := 1 } }
    ∧ (sampled (some 12) true 8).NextSample 5 { slot := 5, code := some 12, valid := true }
    ∧ ((sampled (some 12) true 8).circuit 5).recog.count + 1 < threshold ((sampled (some 12) true 8).profile 5) .idle 12
    ∧ (sampled (some 9) true 1).NextSample 5 { slot := 5, code := some 9, valid := true }
    ∧ ((sampled (some 9) true 1).circuit 5).recog.candidate ≠ 9
    ∧ (hears 12 (on { idleCircuit with phase := .unequipped })).Accepts 5 12
    ∧ (hears 12 (on { idleCircuit with phase := .restarting })).Accepts 5 12
    ∧ (hears 12 (on { idleCircuit with phase := .lockout })).Accepts 5 12 := by decide

theorem witness_UnexpectedCodeIsReported :
    (hears 15 running).inReset = false ∧ (hears 15 running).Accepts 5 15
    ∧ ((hears 15 running).circuit 5).expects 15 = false
    ∧ (hears 13 (on seizing)).Accepts 5 13 ∧ ((hears 13 (on seizing)).circuit 5).expects 13 = false
    ∧ (hears 11 (on (outRegister .signalOn none))).Accepts 5 11
    ∧ ((hears 11 (on (outRegister .signalOn none))).circuit 5).expects 11 = false := by decide

theorem witness_SeizureAcknowledged :
    (hears 1 (on seizing)).inReset = false ∧ (hears 1 (on seizing)).Accepts 5 1
    ∧ ((hears 1 (on seizing)).circuit 5).phase = .outSeizing
    ∧ ((hears 1 (on seizing)).heard 5 1).call.owner = some (.ofHost 2 7)
    ∧ (hears 1 (on seizingForeign)).inReset = false ∧ (hears 1 (on seizingForeign)).Accepts 5 1
    ∧ ((hears 1 (on seizingForeign)).circuit 5).phase = .outSeizing
    ∧ ((hears 1 (on seizingForeign)).heard 5 1).call.owner = some (.foreign 1 9)
    ∧ ((hears 1 (on seizingForeign)).heard 5 1).call.bound =
        some { cls := 1, category := 0, repeatUsed := false, visited := 1 } := by decide

/-- Slot 5 under the odd parity: its circuit is number 5. -/
def oddParity (s : State) : State :=
  s.setSettings { s.settings with station := { s.settings.station with parity := .odd } }

theorem witness_FailedSeizuresReturnRequest :
    (∀ e ∈ [(SlotState.waiting, true), (.seizing, true), (.offered, true), (.ended, false), (.free, false)],
      ((slot2 e.1 false running).huntSlot 2).holds 7 = e.2 ∧ ((slot2 e.1 false running).huntSlot 2).state = e.1
      ∧ ((slot2 e.1 false running).huntSlot 2).reference = some 7
      ∧ ((slot2 e.1 false running).huntSlot 2).holds 8 = false)
    ∧ (running.report .huntFailed).kind.ofHunt = true
    ∧ (request (.ofHost 2 7) false).source = .ofHost 2 7 ∧ (request (.foreign 1 9) false).source = .foreign 1 9
    ∧
    (hears 12 (oddParity (on seizing))).Accepts 5 12 ∧ (hears 12 (oddParity (on seizing))).controlled 5 = true
    ∧ (hears 12 (oddParity (on seizing))).inReset = false
    ∧ ((hears 12 (oddParity (on seizing))).circuit 5).phase = .outSeizing
    ∧ (hears 12 (on seizing)).Accepts 5 12 ∧ (hears 12 (on seizing)).controlled 5 = false
    ∧ (hears 12 (on seizing)).inReset = false ∧ ((hears 12 (on seizing)).circuit 5).phase = .outSeizing
    ∧ ((hears 12 (on seizing)).heard 5 12).call.owner = some (.ofHost 2 7)
    ∧ ((hears 12 (on seizing)).heard 5 12).call.bound = seizing.call.bound
    ∧ (hears 12 (on seizingForeign)).Accepts 5 12 ∧ (hears 12 (on seizingForeign)).controlled 5 = false
    ∧ ((hears 12 (on seizingForeign)).heard 5 12).call.owner = some (.foreign 1 9)
    ∧ ((hears 12 (on seizingForeign)).heard 5 12).call.bound = seizing.call.bound
    ∧ (hears 14 (on seizing)).Accepts 5 14 ∧ ((hears 14 (on seizing)).circuit 5).call.owner = some (.ofHost 2 7)
    ∧ ((hears 14 (on seizing)).circuit 5).phase = .outSeizing
    ∧ ((hears 14 (on seizing)).circuit 5).call.bound = seizing.call.bound
    ∧ (on (expired .ack seizing)).Expired 5 .ack ∧ ((on (expired .ack seizing)).circuit 5).phase = .outSeizing
    ∧ ((on (expired .ack seizing)).circuit 5).call.owner = some (.ofHost 2 7)
    ∧ ((on (expired .ack seizing)).circuit 5).call.bound = seizing.call.bound := by decide

/-- An IDLE circuit with a remote block. -/
def remote : Circuit := holding 14 { idleCircuit with remoteBlocked := true }

theorem witness_IdleCodes :
    (restoring (hears 12 running)).Accepts 5 12 ∧ (restoring (hears 12 running)).inReset = false
    ∧ { slot := 5, kind := .restoration } ∈ (restoring (hears 12 running)).events.actions
    ∧ ((restoring (hears 12 running)).circuit 5).phase = .idle
    ∧ { slot := 5, kind := .restoration } ∉ (hears 12 running).events.actions ∧
    (hears 12 (onSpan failedSpan running)).inReset = false ∧ ((hears 12 (onSpan failedSpan running)).circuit 5).phase = .idle
    ∧ (hears 12 (onSpan failedSpan running)).Accepts 5 12 ∧ (hears 12 (onSpan failedSpan running)).failed 0 = true
    ∧ (hears 12 (on { idleCircuit with hostBlock := true })).Accepts 5 12
    ∧ (hears 12 (on { idleCircuit with hostBlock := true })).failed 0 = false
    ∧ ((hears 12 (on { idleCircuit with hostBlock := true })).circuit 5).blocked = true
    ∧ ((hears 12 (on { idleCircuit with hostBlock := true })).circuit 5).phase = .idle
    ∧ (hears 12 running).Accepts 5 12 ∧ (hears 12 running).failed (spanOf 5) = false
    ∧ ((hears 12 running).circuit 5).blocked = false
    ∧ (hears 14 running).Accepts 5 14 ∧ ((hears 14 running).circuit 5).remoteBlocked = false
    ∧ (hears 14 (on { remote with recog := Recognizer.holding 0 })).Accepts 5 14
    ∧ ((hears 14 (on { remote with recog := Recognizer.holding 0 })).circuit 5).remoteBlocked = true
    ∧ (hears 0 (on remote)).Accepts 5 0 ∧ ((hears 0 (on remote)).circuit 5).remoteBlocked = true
    ∧ ((hears 0 (on remote)).circuit 5).phase = .idle
    ∧ (hears 0 (on (holding 15 idleCircuit))).Accepts 5 0
    ∧ ((hears 0 (on (holding 15 idleCircuit))).circuit 5).remoteBlocked = false := by decide

/-- OUT-CLEARED-BACK with an answer stamp or none. -/
def clearedBack (stamp : Option Stamp) : Circuit :=
  holding 12 { outCircuit .outClearedBack with call := { hostCall with answerStamp := stamp } }

theorem witness_AnswerAndClearBackRecognized :
    (hears 11 (on (holding 1 (outCircuit .outAwaitAnswer)))).inReset = false
    ∧ (hears 11 (on (holding 1 (outCircuit .outAwaitAnswer)))).Accepts 5 11
    ∧ ((hears 11 (on (holding 1 (outCircuit .outAwaitAnswer)))).circuit 5).phase = .outAwaitAnswer
    ∧ (hears 12 (on (holding 1 (outCircuit .outAwaitAnswer)))).Accepts 5 12
    ∧ (hears 12 (on (holding 11 (outCircuit .outAnswered)))).Accepts 5 12
    ∧ ((hears 12 (on (holding 11 (outCircuit .outAnswered)))).circuit 5).phase = .outAnswered
    ∧ (hears 11 (on (clearedBack (some 3)))).Accepts 5 11
    ∧ ((hears 11 (on (clearedBack (some 3)))).circuit 5).phase = .outClearedBack
    ∧ ((hears 11 (on (clearedBack (some 3)))).heard 5 11).call.answerStamp = some 3
    ∧ (hears 11 (on (clearedBack none))).Accepts 5 11
    ∧ ((hears 11 (on (clearedBack none))).heard 5 11).call.answerStamp = none
    ∧ (hears 11 (on (holding 6 (outRegister .signalOff (some 6))))).Accepts 5 11
    ∧ ((hears 11 (on (holding 6 (outRegister .signalOff (some 6))))).circuit 5).phase = .outRegister
    ∧ ((hears 11 (on (holding 6 (outRegister .signalOff (some 6))))).circuit 5).call.step = some .signalOff
    ∧ ((hears 11 (on (holding 6 (outRegister .signalOff (some 6))))).circuit 5).call.send.request = some 6 := by decide

/-- OUT-REGISTER in SIGNAL-OFF with a pending request that it still hears. -/
def closing (r : Code) : State := hears 1 (on (holding r (outRegister .signalOff (some r))))

theorem witness_OutgoingRegisterCycle :
    (∀ x ∈ [(2 : Code), 7],
      (hears x (on (holding 1 (outRegister .signalOn none)))).inReset = false
      ∧ (hears x (on (holding 1 (outRegister .signalOn none)))).Accepts 5 x
      ∧ ((hears x (on (holding 1 (outRegister .signalOn none)))).circuit 5).phase = .outRegister
      ∧ ((hears x (on (holding 1 (outRegister .signalOn none)))).circuit 5).call.step = some .signalOn)
    ∧ (∀ x ∈ [(8 : Code), 9, 10], (hears x (on (holding 1 (outRegister .signalOn none)))).Accepts 5 x)
    ∧ (∀ r ∈ [(2 : Code), 3, 4, 5, 6, 7],
      (closing r).inReset = false ∧ ((closing r).circuit 5).phase = .outRegister ∧ (closing r).Accepts 5 1
      ∧ ((closing r).circuit 5).call.step = some .signalOff ∧ ((closing r).circuit 5).call.send.request = some r) := by
  decide

/-- OUT-RELEASING that holds a code. -/
def releasing (x : Code) : Circuit := holding x { outCircuit .outReleasing with sendCode := 0 }

theorem witness_OutgoingReleaseCompletes :
    (∀ x ∈ [(0 : Code), 13, 14], (hears x (on (releasing 11))).inReset = false
      ∧ ((hears x (on (releasing 11))).circuit 5).phase = .outReleasing ∧ (hears x (on (releasing 11))).Accepts 5 x)
    ∧ (on (expired .release (releasing 0))).Expired 5 .release
    ∧ ((on (expired .release (releasing 0))).circuit 5).phase = .outReleasing
    ∧ ((on (expired .release (releasing 0))).circuit 5).recog.accepted = 0
    ∧ (on (expired .release (releasing 1))).Expired 5 .release
    ∧ ((on (expired .release (releasing 1))).circuit 5).recog.accepted ≠ 0 := by decide

theorem witness_ClearForwardReceived :
    (∀ p ∈ [Phase.inRegister, .inAwaitAnswer, .inAnswered, .inClearedBack, .inFailed],
      (hears 0 (on (incoming p none (full 0 0)))).inReset = false ∧ (hears 0 (on (incoming p none (full 0 0)))).Accepts 5 0
      ∧ ((hears 0 (on (incoming p none (full 0 0)))).circuit 5).phase = p ∧ p.isIn = true ∧ p ≠ .inGuard)
    ∧ (∀ x ∈ [(0 : Code), 12, 14],
      (hears x (on (holding 11 (incoming .inGuard none (full 0 0))))).Accepts 5 x
      ∧ ((hears x (on (holding 11 (incoming .inGuard none (full 0 0))))).circuit 5).phase = .inGuard) := by decide

/-- AWAIT-SIGNAL with a buffer, about to accept a code. -/
def reading (x : Code) (b : ReceiveBuffer) : State := hears x (on (incoming .inRegister (some .awaitSignal) b))

theorem witness_IncomingItemsReceived :
    (∀ e ∈ [((4 : Code), answered 5), (11, full 0 2), (10, full 24 24), (1, full 23 24), (9, full 2 2)],
      (reading e.1 e.2).inReset = false ∧ (reading e.1 e.2).Accepts 5 e.1
      ∧ ((reading e.1 e.2).circuit 5).phase = .inRegister
      ∧ ((reading e.1 e.2).circuit 5).call.step = some .awaitSignal
      ∧ ((reading e.1 e.2).circuit 5).call.buffer = e.2)
    ∧ categoryCode 3 = 4 ∧ digitCode 0 = 10 ∧ digitCode 1 = 1 ∧ digitCode 9 = 9
    ∧ (hears 12 (on (holding 1 (incoming .inRegister (some .awaitSignal) (full 1 2))))).Accepts 5 12 := by decide

/-- RESPONDING with a response on the line, about to accept a code. -/
def responding (r : Code) (pending : Bool) (x : Code) : State :=
  let c := incoming .inRegister (some .responding) (answered r)
  hears x (on (holding 1 { c with sendCode := r, call := { c.call with answerPending := pending } }))

theorem witness_IncomingCycleCloses :
    (∀ r ∈ [(2 : Code), 5, 6, 7, 8, 9, 10], ∀ p : Bool, ∀ x ∈ [(12 : Code), 0, 11, 13],
      (responding r p x).inReset = false ∧ (responding r p x).Accepts 5 x
      ∧ ((responding r p x).circuit 5).phase = .inRegister
      ∧ ((responding r p x).circuit 5).call.step = some .responding
      ∧ ((responding r p x).circuit 5).call.buffer.lastResponse = some r
      ∧ ((responding r p x).heard 5 x).call.answerPending = p) := by decide

theorem witness_TickBoundaryCounts : running.inReset = false := by decide

theorem witness_FailedCallsClearForward :
    (on (expired .answer (outCircuit .outAwaitAnswer))).inReset = false
    ∧ (on (expired .answer (outCircuit .outAwaitAnswer))).Expired 5 .answer
    ∧ (on (expired .clearback (outCircuit .outClearedBack))).Expired 5 .clearback
    ∧ ((on (expired .clearback (outCircuit .outClearedBack))).circuit 5).phase = .outClearedBack
    ∧ (∀ t ∈ [RegStep.signalOn, .signalOff],
        (on (expired .compel (outRegister t none))).Expired 5 .compel
        ∧ ((on (expired .compel (outRegister t none))).circuit 5).phase = .outRegister
        ∧ ((on (expired .compel (outRegister t none))).circuit 5).call.step = some t)
    ∧ (on (expired .digit (outRegister .digitWait none))).Expired 5 .digit
    ∧ ((on (expired .digit (outRegister .digitWait none))).circuit 5).call.step = some .digitWait := by decide

theorem witness_IncomingExpiries :
    (∀ t ∈ [RegStep.awaitSignal, .responding],
      (on (expired .compel (incoming .inRegister (some t) (full 1 2)))).Expired 5 .compel
      ∧ ((on (expired .compel (incoming .inRegister (some t) (full 1 2)))).circuit 5).phase = .inRegister
      ∧ ((on (expired .compel (incoming .inRegister (some t) (full 1 2)))).circuit 5).call.step = some t)
    ∧ (on (expired .response (incoming .inRegister (some .hostWait) (full 3 2)))).Expired 5 .response
    ∧ ((on (expired .response (incoming .inRegister (some .hostWait) (full 3 2)))).circuit 5).call.step = some .hostWait
    ∧ (on (expired .release (incoming .inFailed none (full 1 2)))).Expired 5 .release
    ∧ ((on (expired .release (incoming .inFailed none (full 1 2)))).circuit 5).phase = .inFailed
    ∧ (on (expired .release (incoming .inFailed none (full 1 2)))).inReset = false := by decide

/-- RESETTING that holds a code. -/
def resetting (x : Code) : Circuit := holding x { idleCircuit with phase := .resetting }

/-- Every circuit of span 0 IDLE with the QUIESCE reason, the span QUIESCING. -/
def quiescing : State :=
  onSpan { Span.reset with quiesce := .quiescing }
    (running.setCircuits (Vector.replicate 48 { idleCircuit with quiesceBlock := true, sendCode := 14 }))

theorem witness_CircuitResetCompletes :
    (∀ x ∈ [(0 : Code), 14],
      (hears x (on (resetting 12))).inReset = false ∧ ((hears x (on (resetting 12))).circuit 5).phase = .resetting
      ∧ (hears x (on (resetting 12))).Accepts 5 x
      ∧ (on (expired .release (resetting x))).Expired 5 .release
      ∧ ((on (expired .release (resetting x))).circuit 5).recog.accepted = x
      ∧ ((on (expired .release (resetting x))).circuit 5).phase = .resetting)
    ∧ (on (expired .release (resetting 12))).Expired 5 .release
    ∧ ((on (expired .release (resetting 12))).circuit 5).recog.accepted ≠ 0
    ∧ ((on (expired .release (resetting 12))).circuit 5).recog.accepted ≠ 14
    ∧ seizing.phase ≠ .idle ∧ (running.circuit 5).phase = .idle
    ∧ (quiescing.circuit 5).phase = .idle ∧ quiescing.equipped 5 = true
    ∧ (quiescing.span (spanOf 5)).quiesce = .quiescing
    ∧ (∀ x, spanOf x = spanOf 5 → quiescing.equipped x = true →
        (quiescing.circuit x).phase = .idle ∧ (quiescing.circuit x).quiesceBlock = true) := by decide

/-- A circuit in RESTARTING whose guard has expired; the restarting count. -/
def restarting (n : Nat) : State :=
  { on (expired .restart { idleCircuit with phase := .restarting, sendCode := 14 }) with partPhase := .starting, restarting := n }

theorem witness_GuardsEnd :
    (on (expired .guardTime (incoming .inGuard none (full 0 0)))).inReset = false
    ∧ (on (expired .guardTime (incoming .inGuard none (full 0 0)))).Expired 5 .guardTime
    ∧ ((on (expired .guardTime (incoming .inGuard none (full 0 0)))).circuit 5).phase = .inGuard
    ∧ (restarting 2).inReset = false ∧ (restarting 2).Expired 5 .restart ∧ ((restarting 2).circuit 5).phase = .restarting
    ∧ (restarting 2).restarting - 1 ≠ 0
    ∧ (restarting 1).Expired 5 .restart ∧ (restarting 1).restarting - 1 = 0 := by decide

/-- Span 0 with a condition and a run, and a valid bit handed to it. -/
def stepping (k : Condition) (run : Nat) (v : Bool) : State :=
  validBit v (onSpan { Span.reset with condition := k, run := run } running)

theorem witness_ValidBitsStepSpan :
    (∀ e ∈ [(Condition.inService, 49, true), (.inService, 48, false), (.inService, 49, false), (.failed, 499, false),
        (.failed, 498, true), (.failed, 499, true)],
      (stepping e.1 e.2.1 e.2.2).inReset = false
      ∧ (stepping e.1 e.2.1 e.2.2).events.validBits.find? (fun v => v.span = 0) = some { span := 0, valid := e.2.2 }
      ∧ ((stepping e.1 e.2.1 e.2.2).span 0).condition = e.1 ∧ ((stepping e.1 e.2.1 e.2.2).span 0).run = e.2.1) := by decide

/-- A state at whose slot 5 an action waits. -/
def Waits (k : ActionKind) (s : State) : Prop :=
  s.inReset = false ∧ (s.events.actions.find? fun a => a.slot = 5).map SpanAction.kind = some k

theorem witness_SpanActionsAtCircuits :
    Waits .failure (failing (on (outCircuit .outAnswered)))
    ∧ ((failing (on (outCircuit .outAnswered))).circuit 5).phase.isCall = true
    ∧ ((failing (on (outCircuit .outAnswered))).profile 5).policy = .hold
    ∧ Waits .failure (failing (on (resetting 0))) ∧ ((failing (on (resetting 0))).circuit 5).phase = .resetting
    ∧ Waits .failure (failing running) ∧ ((failing running).circuit 5).phase = .idle
    ∧ (∀ p ∈ [Phase.lockout, .unequipped, .restarting],
        ((failing (on { idleCircuit with phase := p })).circuit 5).phase = p)
    ∧ Waits .restoration (restoring (on remote))
    ∧ ¬ (((restoring (on remote)).circuit 5).phase = .idle ∧ ((restoring (on remote)).circuit 5).recog.accepted = 12)
    ∧ Waits .restoration (acting [.restoration, .failure] (onSpan failedSpan (on (holding 12 idleCircuit))))
    ∧ (onSpan failedSpan (on (holding 12 idleCircuit))).failed (spanOf 5) = true
    ∧ (∀ b : Bool, Waits .restoration (restoring (on (holding 12 { idleCircuit with hostBlock := b })))
        ∧ ((restoring (on (holding 12 { idleCircuit with hostBlock := b }))).circuit 5).phase = .idle
        ∧ ((restoring (on (holding 12 { idleCircuit with hostBlock := b }))).circuit 5).recog.accepted = 12
        ∧ (restoring (on (holding 12 { idleCircuit with hostBlock := b }))).failed (spanOf 5) = false
        ∧ ((restoring (on (holding 12 { idleCircuit with hostBlock := b }))).circuit 5).blocked = b) := by
  unfold Waits
  decide

theorem witness_CallLostOnFailedSpan :
    Waits .failure (underDefault (failing (on seizing)))
    ∧ ((underDefault (failing (on seizing))).circuit 5).phase.isCall = true
    ∧ ((underDefault (failing (on seizing))).profile 5).policy = .default
    ∧ Waits .callLoss (losing (on { seizing with call := { seizing.call with held := true } }))
    ∧ ((losing (on { seizing with call := { seizing.call with held := true } })).circuit 5).call.held = true
    ∧ ((losing (on { seizing with call := { seizing.call with held := true } })).circuit 5).phase.isCall = true
    ∧ Waits .callLoss (losing (on seizing)) ∧ ((losing (on seizing)).circuit 5).call.held = false
    ∧ ((losing (on seizing)).profile 5).policy = .hold
    ∧ Waits .callLoss (losing running) ∧ ((losing running).circuit 5).phase.isCall = false
    ∧ ((onSpan { failedSpan with holdTimer := some 0 } running).span 0).holdTimer = some 0
    ∧ (∀ a ∈ (onSpan { failedSpan with holdTimer := some 0 } running).events.actions, a.slot ≠ 5) ∧ spanOf 5 = 0
    ∧ (∃ t, exec (.holdTimeExpiry 0) (onSpan { failedSpan with holdTimer := some 0 } running) = .next t)
    ∧ ((onSpan { failedSpan with holdTimer := some 1 } running).span 0).holdTimer ≠ some 0 := by
  unfold Waits
  refine ⟨by decide, by decide, by decide, by decide, by decide, by decide, by decide, by decide, by decide, by decide,
    by decide, by decide, by decide, by decide, ⟨_, rfl⟩, by decide⟩

/-- Span 0 QUIESCED with a standing 12 at slots 5 and 7, and one at slot 6 that the host has blocked too. -/
def standingTwelves : State :=
  ((quiescing.writeCircuit 5 (holding 12 { idleCircuit with quiesceBlock := true, sendCode := 14 })).writeCircuit 7
    (holding 12 { idleCircuit with quiesceBlock := true, sendCode := 14 })).writeCircuit 6
      (holding 12 { idleCircuit with quiesceBlock := true, hostBlock := true, sendCode := 14 })

/-- R91, R158: RESUME-SPAN takes the standing 12 at 5 and 7, in channel order, and not at 6. -/
theorem test_resume_takes : told (.resumeSpan [0]) standingTwelves = [(.incomingSeizure, 0, 0), (.incomingSeizure, 0, 0)]
    ∧ (after (.resumeSpan [0]) standingTwelves).reports.queue.map Report.circuit = [some 5, some 7]
    ∧ ((after (.resumeSpan [0]) standingTwelves).circuit 6).phase = .idle
    ∧ (after (.resumeSpan [0]) standingTwelves).hunt.free = 13 := by decide +kernel

theorem witness_SpansQuiesceAndResume :
    running.inReset = false ∧ running.partPhase = .run ∧ (running.span 0).quiesce = .none
    ∧ quiescing.inReset = false ∧ quiescing.partPhase = .run ∧ (quiescing.span 0).quiesce ≠ .none
    ∧ (quiescing.circuit 5).recog.accepted ≠ 12
    ∧ standingTwelves.inReset = false ∧ standingTwelves.partPhase = .run ∧ (standingTwelves.span 0).quiesce ≠ .none
    ∧ standingTwelves.equipped 5 = true ∧ (standingTwelves.circuit 5).phase = .idle
    ∧ (standingTwelves.circuit 5).quiesceBlock = true ∧ (standingTwelves.circuit 5).hostBlock = false
    ∧ (standingTwelves.circuit 5).recog.accepted = 12 ∧ standingTwelves.failed 0 = false := by decide

/-- The request of the tests waits alone, or with a dispatch still idle, at a free count. -/
def deciding (source : Source) (n : Nat) : State := free n (queued [request source false] (slot2 .waiting false running))

/-- With r1 at 5, class 1 is admitted above 5 free circuits. -/
def reserved (source : Source) (n : Nat) : State :=
  (deciding source n).setSettings { running.settings with station := { running.settings.station with r1 := 5 } }

theorem witness_DispatchDecides :
    (reserved (.ofHost 2 7) 6).inReset = false ∧ (reserved (.ofHost 2 7) 6).hunt.dispatch = none
    ∧ (reserved (.ofHost 2 7) 6).hunt.queue = request (.ofHost 2 7) false :: []
    ∧ (reserved (.ofHost 2 7) 6).settings.station.r1 < (reserved (.ofHost 2 7) 6).hunt.free
    ∧ (reserved (.ofHost 2 7) 6).choose = some 0 ∧ (reserved (.ofHost 2 7) 6).eligible 5 = true
    ∧ (offering [entry 10 5 true, entry 11 5 true] running).offers.newTag = 12
    ∧ (offering [entry 10 5 true, entry 11 5 true] running).offers.table.length < 8
    ∧ ¬ (reserved (.ofHost 2 7) 5).settings.station.r1 < (reserved (.ofHost 2 7) 5).hunt.free
    ∧ ((reserved (.ofHost 2 7) 5).huntSlot 2).holds 7 = true
    ∧ 1 < (reserved (.ofHost 2 7) 5).ring
    ∧ (reserved (.ofHost 2 7) 5).candidate (reserved (.ofHost 2 7) 5).station 1 1 = some 1
    ∧ (reserved (.ofHost 2 7) 5).candidate (reserved (.ofHost 2 7) 5).station 3 1 = none
    ∧ (offering ((List.range 8).map fun k => entry (BitVec.ofNat 8 k) 5 true) (reserved (.ofHost 2 7) 5)).offers.table.length = 8
    ∧ (reserved (.foreign 1 9) 5).hunt.queue = request (.foreign 1 9) false :: []
    ∧ ¬ (reserved (.foreign 1 9) 5).settings.station.r1 < (reserved (.foreign 1 9) 5).hunt.free := by decide +kernel

theorem witness_SeizeCommandAtCircuit :
    (dispatched (request (.ofHost 2 7) false) .inFlight running).inReset = false
    ∧ (dispatched (request (.ofHost 2 7) false) .inFlight running).hunt.dispatch =
        some { request := request (.ofHost 2 7) false, circuit := 5, stage := .inFlight }
    ∧ (dispatched (request (.ofHost 2 7) false) .inFlight running).eligible 5 = true
    ∧ (dispatched (request (.ofHost 2 7) false) .inFlight (on remote)).hunt.dispatch =
        some { request := request (.ofHost 2 7) false, circuit := 5, stage := .inFlight }
    ∧ (dispatched (request (.ofHost 2 7) false) .inFlight (on remote)).eligible 5 = false
    ∧ (∀ mark : Bool, let s := dispatched (request (.ofHost 2 7) false) .inFlight (slot2 .waiting mark running)
        s.inReset = false ∧ s.eligible 5 = true ∧ (s.huntSlot 2).holds 7 = true ∧ (s.huntSlot 2).cancelMark = mark
        ∧ s.hunt.dispatch = some { request := request (.ofHost 2 7) false, circuit := 5, stage := .inFlight }
        ∧ (mark = false → ∀ ix, (s.huntSlot ix).cancelMark = false))
    ∧ running.controlled 4 = true ∧ running.controlled 5 = false ∧ (oddParity running).controlled 5 = true
    ∧ running.eligibleCount = 48 ∧ running.circuitNumber 47 = 47
    ∧ levelFor { running.settings.station with r1 := 5, r2 := 5, r3 := 9 } 5 = some 0
    ∧ levelFor { running.settings.station with r1 := 5, r2 := 5, r3 := 9 } 6 = some 2
    ∧ levelFor { running.settings.station with r1 := 5, r2 := 5, r3 := 9 } 10 = some 3
    ∧ levelFor running.settings.station 0 = none := by decide +kernel

/-- The outcome of the seize command of the test request, with and without the cancel mark. -/
def seized (stage : SeizeStage) (mark : Bool) : State :=
  dispatched (request (.ofHost 2 7) false) stage (slot2 .waiting mark (on seizing))

theorem witness_SeizeOutcomeTaken :
    (∀ mark : Bool, ∀ stage ∈ [SeizeStage.taken, .refused],
      (seized stage mark).inReset = false
      ∧ (seized stage mark).hunt.dispatch = some { request := request (.ofHost 2 7) false, circuit := 5, stage := stage }
      ∧ ((seized stage mark).huntSlot 2).holds 7 = true ∧ ((seized stage mark).huntSlot 2).cancelMark = mark
      ∧ ((seized stage mark).circuit 5).phase = .outSeizing
      ∧ ((seized stage mark).circuit 5).call.owner = some (.ofHost 2 7))
    ∧ (∀ stage ∈ [SeizeStage.taken, .refused],
      (dispatched (request (.foreign 1 9) false) stage running).hunt.dispatch =
        some { request := request (.foreign 1 9) false, circuit := 5, stage := stage }) := by decide

/-- A returned request, with n requests in the queue. -/
def returning (source : Source) (used : Bool) (n : Nat) (mark : Bool) : State :=
  returned (request source used) (queued (List.replicate n (request (.foreign 3 1) false)) (slot2 .waiting mark running))

theorem witness_ReturnedRequestRepeats :
    (∀ e ∈ [(Source.ofHost 2 7, false, 7), (.ofHost 2 7, true, 7), (.ofHost 2 7, false, 8), (.foreign 1 9, false, 7),
        (.foreign 1 9, true, 7), (.foreign 1 9, false, 8)], ∀ mark : Bool,
      (returning e.1 e.2.1 e.2.2 mark).inReset = false
      ∧ (returning e.1 e.2.1 e.2.2 mark).events.returned.find? (fun v => v.slot = 5) =
          some { slot := 5, reason := .noAck, request := request e.1 e.2.1 }
      ∧ (returning e.1 e.2.1 e.2.2 mark).hunt.queue.length = e.2.2
      ∧ ((returning e.1 e.2.1 e.2.2 mark).huntSlot 2).holds 7 = true
      ∧ ((returning e.1 e.2.1 e.2.2 mark).huntSlot 2).cancelMark = mark) := by decide

/-- Log entry 35, the model's choice: HUNT-CANCELLED of a cancelled and returned request names the returning circuit. -/
theorem test_cancelled_return :
    (after (.requestReturn 5) (returning (.ofHost 2 7) false 0 true)).reports.queue.map (fun r => (r.kind, r.circuit)) =
      [(.huntCancelled, some 5)] := by decide +kernel

/-- All 16 hunt slots occupied. -/
def occupied : State :=
  running.setHunt { running.hunt with
    slots := Vector.ofFn fun ix : HuntIx =>
      { state := .ended, reference := some (BitVec.ofNat 16 ix.val), circuit := none, cancelMark := false } }

theorem witness_HuntOrderTaken :
    running.inReset = false ∧ running.partPhase = .run ∧ ([] : List Digit).length ≤ 24
    ∧ (List.replicate 24 (9 : Digit)).length ≤ 24
    ∧ (∃ ix, (occupied.huntSlot ix).state ≠ .free ∧ (occupied.huntSlot ix).reference = some 15)
    ∧ ¬ (∃ ix, (occupied.huntSlot ix).state ≠ .free ∧ (occupied.huntSlot ix).reference = some 16)
    ∧ (∀ ix, (occupied.huntSlot ix).state ≠ .free) ∧ occupied.inReset = false ∧ occupied.partPhase = .run
    ∧ ¬ (∃ ix, (running.huntSlot ix).state ≠ .free ∧ (running.huntSlot ix).reference = some 7)
    ∧ (running.huntSlot 0).state = .free ∧ (∀ j : HuntIx, j < 0 → (running.huntSlot j).state ≠ .free)
    ∧ running.hunt.queue.length < 8
    ∧ (queued (List.replicate 8 (request (.foreign 1 9) false)) running).hunt.queue.length = 8
    ∧ ((queued (List.replicate 8 (request (.foreign 1 9) false)) running).huntSlot 0).state = .free := by decide +kernel

theorem witness_CancelOrderTaken :
    (∀ ix, (running.huntSlot ix).reference = some 7 → (running.huntSlot ix).state = .free)
    ∧ (∀ st ∈ [SlotState.ended, .waiting, .seizing, .offered],
        ((slot2 st false running).huntSlot 2).reference = some 7 ∧ ((slot2 st false running).huntSlot 2).state = st
        ∧ (slot2 st false running).inReset = false ∧ (slot2 st false running).partPhase = .run
        ∧ (∀ j, ((slot2 st false running).huntSlot j).state ≠ .free →
            ((slot2 st false running).huntSlot j).reference = some 7 → j = 2))
    ∧ (∃ q ∈ (queued [request (.ofHost 2 7) false] (slot2 .waiting false running)).hunt.queue, q.source = .ofHost 2 7)
    ∧ (∀ q ∈ (slot2 .waiting false running).hunt.queue, q.source ≠ .ofHost 2 7)
    ∧ (∀ e ∈ (slot2 .waiting false running).events.returned, e.request.source ≠ .ofHost 2 7)
    ∧ (∀ d, (slot2 .waiting false running).hunt.dispatch = some d → d.stage ≠ .taken)
    ∧ (dispatched (request (.ofHost 2 7) false) .inFlight (slot2 .waiting false running)).hunt.dispatch =
        some { request := request (.ofHost 2 7) false, circuit := 5, stage := .inFlight }
    ∧ (seized .taken false).hunt.dispatch =
        some { request := request (.ofHost 2 7) false, circuit := 5, stage := .taken }
    ∧ ((seized .taken false).huntSlot 2).state = .waiting ∧ ((seized .taken false).huntSlot 2).reference = some 7
    ∧ (seized .taken false).hunt.queue = [] ∧ (seized .taken false).events.returned = []
    ∧ ((seized .taken false).circuit 5).phase = .outSeizing
    ∧ ((seized .taken false).circuit 5).call.owner = some (.ofHost 2 7)
    ∧ ((slot2 .seizing false (on seizing)).huntSlot 2).circuit = some 5
    ∧ ((slot2 .seizing false (on seizing)).circuit 5).phase = .outSeizing
    ∧ ((slot2 .seizing false (on seizing)).circuit 5).call.owner = some (.ofHost 2 7)
    ∧ (offering [entry 9 5 true] (slot2 .offered false running)).offers.table.find?
        (fun e => e.slot = 2 && e.reference = 7) = some (entry 9 5 true) := by decide +kernel

/-- An answer with a live entry of tag 9, or with none. -/
def answering (b : FrameBody) (live : Bool) : State :=
  arrived b (offering (if live then [entry 9 0 false] else []) (slot2 .offered false running))

theorem witness_OfferAnswers :
    (∀ b ∈ [FrameBody.grant 9 1023, .exhausted 9],
      (∀ l : Bool, (answering b l).inReset = false ∧ (answering b l).events.arrived = { source := 1, body := b } :: [])
      ∧ (answering b true).offers.live 9 = some (entry 9 0 false) ∧ (answering b false).offers.live 9 = none)
    ∧ (entry 9 0 false).timer = 0
    ∧ (offering [entry 9 1 false] running).offers.live 9 = some (entry 9 1 false) ∧ (entry 9 1 false).timer ≠ 0
    ∧ running.offers.live 9 = none := by decide

/-- An OFFER received with n requests in the queue. -/
def offered (origin : Station) (visited : StationSet) (n : Nat) : State :=
  arrived (.offer (offerOf origin visited)) (queued (List.replicate n (request (.foreign 3 1) false)) running)

/-- A send queue with n frames. -/
def sendQueue (n : Nat) (st : BusState) : State :=
  onBus (fun b => { b with state := st, queue := List.replicate n (waitingFrame 0 false false) }) running

theorem witness_OfferReceived :
    (∀ e ∈ [((2 : Station), (1 : StationSet), 0), (0, 1, 0), (1, 1, 0), (1, 2, 8), (1, 2, 7)],
      (offered e.1 e.2.1 e.2.2).inReset = false
      ∧ (offered e.1 e.2.1 e.2.2).events.arrived = { source := 1, body := .offer (offerOf e.1 e.2.1) } :: []
      ∧ (offered e.1 e.2.1 e.2.2).hunt.queue.length = e.2.2 ∧ (offered e.1 e.2.1 e.2.2).ring = 2
      ∧ (offered e.1 e.2.1 e.2.2).station = 0)
    ∧ (offering [entry 9 5 true] (offered 0 1 0)).offers.live 9 = some (entry 9 5 true)
    ∧ (offered 0 1 0).offers.live 9 = none
    ∧ (1 : StationSet).getLsbD 0 = true ∧ (2 : StationSet).getLsbD 0 = false
    ∧ (sendQueue 15 .active).bus.queue.length < 16 ∧ 16 ≤ (sendQueue 16 .fault).bus.queue.length
    ∧ (sendQueue 0 .mute).bus.state = .mute
    ∧ running.ring ≤ 8 ∧ running.candidate 0 1 3 = some 1 ∧ running.candidate 1 1 3 = none := by decide

/-- A foreign call of station 1's offer 9 on slot 5, circuit number 5. -/
def foreignCall (p : Phase) : State := on { outCircuit p with call := { hostCall with owner := some (.foreign 1 9) } }

theorem witness_CallsWithdrawn :
    (∀ d : Bool, (outcome d (.grant 9 5) (foreignCall .outAnswered)).inReset = false
      ∧ (outcome d (.grant 9 5) (foreignCall .outAnswered)).events.outcomes =
          { delivered := d, frame := { dest := 1, body := .grant 9 5 } } :: [])
    ∧ (arrived (.withdraw 9 5) (foreignCall .outSeizing)).events.arrived = { source := 1, body := .withdraw 9 5 } :: []
    ∧ (∀ p ∈ [Phase.outSeizing, .outAnswered], (foreignCall p).locate 5 = some 5
      ∧ ((foreignCall p).circuit 5).call.owner = some (.foreign 1 9)
      ∧ ((foreignCall p).circuit 5).phase.isOut = true ∧ ((foreignCall p).circuit 5).phase ≠ .outReleasing)
    ∧ (∀ x, ¬ (running.locate 5 = some x ∧ (running.circuit x).call.owner = some (.foreign 1 9)
      ∧ (running.circuit x).phase.isOut = true ∧ (running.circuit x).phase ≠ .outReleasing)) := by decide +kernel

/-- An outcome of an OFFER with live entries; the view of `running` or an empty one. -/
def resolved (delivered : Bool) (origin : Station) (es : List OfferEntry) : State :=
  outcome delivered (.offer (offerOf origin 1)) (offering es (slot2 .offered false running))

/-- The same in a ring of three with station 2 present. -/
def wider (s : State) : State :=
  (s.setSettings { s.settings with station := { s.settings.station with ring := 3 } }).setBus { s.bus with
    view := s.bus.view.set 2 (some { present := true, level := some 3, free := 10, phase := .run, age := 0 }) }

theorem witness_OfferOutcomes :
    (∀ d : Bool, ∀ o ∈ [(0 : Station), 1], ∀ p : Bool,
      (resolved d o [entry 9 5 p]).inReset = false
      ∧ (resolved d o [entry 9 5 p]).events.outcomes =
          { delivered := d, frame := { dest := 1, body := .offer (offerOf o 1) } } :: []
      ∧ (resolved d o [entry 9 5 p]).offers.live 9 = some (entry 9 5 p) ∧ (entry 9 5 p).pending = p)
    ∧ (resolved false 0 []).offers.live 9 = none
    ∧ (resolved false 0 [entry 9 5 true]).candidate 0 (addStation 1 1) 1 = none
    ∧ (wider (resolved false 0 [entry 9 5 true])).candidate 0 (addStation 1 1) 1 = some 2
    ∧ (wider (resolved false 0 [entry 9 5 true])).events.outcomes =
        { delivered := false, frame := { dest := 1, body := .offer (offerOf 0 1) } } :: [] := by decide

/-- A directed frame of station 0 as sent. -/
def ownRaw : RawFrame := (waitingFrame 0 false false).frame.raw 0

/-- A frame whose check ends in five dominant bits, so that a stuff bit follows it. -/
def trailingRaw : RawFrame := ({ dest := 1, body := .exhausted 2 } : Directed).raw 0

/-- A station that may send, with these frames and LEVEL slot. -/
def sending (qs : List Queued) (f : Option LevelFrame) : State :=
  onBus (fun b => { b with queue := qs, levelSlot := f }) running

theorem witness_FrameTransmit :
    (∀ line ∈ [[], [true], List.replicate 12 true],
      let t := (sending [] none).hear line
      (sending [] none).inReset = false ∧ t.bus.state = .active ∧ t.bus.recessiveRun = 11 ∧ t.bus.onLine = none
      ∧ t.bus.reception = [] ∧ t.bus.queue = [] ∧ t.bus.levelSlot = none)
    ∧ ((sending [] none).hear [false]).bus.recessiveRun ≠ 11 ∧ ((sending [] none).hear [false]).bus.reception = [false]
    ∧ ((sending [] none).hear (List.replicate 24 false)).bus.state = .fault
    ∧ (∀ n ∈ [1, 2], ((sending [waitingFrame n false false] none).hear [true]).bus.queue =
        [] ++ waitingFrame n false false :: [])
    ∧ (∀ x ∈ ((sending [waitingFrame 1 false false] none).hear [true]).bus.queue,
        (waitingFrame 1 false false).frame.body.urgency ≤ x.frame.body.urgency ∧ x.sending = false)
    ∧ (([] : List Bit).length < 9 ∧ 9 ≤ (List.replicate 9 true).length)
    ∧ (ownRaw.transmit ownRaw.compared).1 = .sent
    ∧ (ownRaw.transmit (ownRaw.compared.take 5 ++ [false])).1 = .lost
    ∧ (ownRaw.transmit (ownRaw.compared.take 20 ++ [!(ownRaw.compared.getD 20 true)])).1 = .aborted
    ∧ (let f : LevelFrame := { level := none, free := 0, phase := .run }
       (sending [] (some f)).bus.levelSlot = some f
       ∧ ((f.raw 0).transmit (f.raw 0).compared).1 = .sent
       ∧ ((f.raw 0).transmit ((f.raw 0).compared.take 20 ++ [!((f.raw 0).compared.getD 20 true)])).1 = .aborted
       ∧ ((f.raw 0).transmit ((f.raw 0).compared.take 1 ++ [false])).1 = .lost)
    ∧ (∀ k ∈ [5, 9],
        ownRaw.line.take k ++ true :: ownRaw.line.drop (k + 1) = ownRaw.line ∧ (ownRaw.line.take k).length < ownRaw.arbitration)
    ∧ (∀ k ∈ [ownRaw.arbitration, 20, ownRaw.compared.length - 1],
        ownRaw.compared.take k ++ ownRaw.compared.getD k true :: ownRaw.compared.drop (k + 1) = ownRaw.compared
        ∧ ownRaw.arbitration ≤ (ownRaw.compared.take k).length)
    ∧ ownRaw.line = ownRaw.compared ∧ trailingRaw.line = trailingRaw.compared ++ [true]
    ∧ (0 < 9 ∧ 0 < 1 ∧ 0 < 4 ∧ 3 < 4 ∧ [true] ≠ []) := by
  decide +kernel

/-- R115, R117: the stuff bit after the last check bit counts as it is read, recessive or dominant. -/
theorem test_trailing_stuff_bit :
    let ended (bit : Bit) := (after (.frameTransmit [] (trailingRaw.compared ++ [bit]))
      (sending [{ waitingFrame 0 false false with frame := { dest := 1, body := .exhausted 2 } }] none)).bus
    ((ended false).onLine, (ended false).dominantRun, (ended false).recessiveRun) = (some .directed, 6, 0)
    ∧ ((ended true).onLine, (ended true).dominantRun, (ended true).recessiveRun) = (some .directed, 0, 1) := by decide +kernel

/-- R114: a bit sent dominant and read recessive in the arbitration part ends the run of dominant bits on the line, so the stuff
bit of the sender moves with it; read as sent, it stands after the fifth (log entry 22). -/
theorem test_stuff_follows_line :
    sendBits 9 0 (List.replicate 7 false) [] = (.sent, [false, false, false, false, false, true, false, false])
    ∧ sendBits 9 0 (List.replicate 7 false) [false, false, true] =
        (.sent, [false, false, true, false, false, false, false]) := by decide

/-- R124: a length field of 21 ends the reception at its last bit with one check error; one of 20 does not. -/
theorem test_over_long :
    let head (len : Nat) : List Bit := stuff 0 (false :: bitsOf 8 0x28 ++ bitsOf 4 1 ++ bitsOf 5 len)
    let at_ (line : List Bit) := ((running.hear line).bus.checkErrors, (running.hear line).bus.reception.length)
    at_ (head 21) = (1, 0) ∧ at_ ((head 21).dropLast) = (0, (head 21).length - 1)
    ∧ at_ (head 21 ++ List.replicate 11 true) = (1, 0) ∧ at_ (head 20) = (0, (head 20).length) := by decide +kernel

/-- R119, R124: arbitration lost at the stuff bit after five dominant ones ends the frame with one check error; lost at a data
bit, the frame stays in reception. -/
theorem test_lost_at_stuff_bit :
    let s := sending [waitingFrame 1 false false] none
    let lost (readBack : List Bit) := (after (.frameTransmit [] readBack) s).bus
    ((lost (List.replicate 6 false)).checkErrors, (lost (List.replicate 6 false)).reception,
      (lost (List.replicate 6 false)).queue) = (1, [], s.bus.queue)
    ∧ (let back := ownRaw.line.take 9 ++ [false]
       ((lost back).checkErrors, (lost back).reception, (lost back).queue) = (0, back, s.bus.queue)) := by decide +kernel

/-- Log entry 38: a dominant acknowledge slot that finds the bus idle is taken as a start bit. -/
theorem test_slot_after_eleven_recessive :
    (running.hear [false]).bus.reception = [false] ∧ (running.hear ([false] ++ List.replicate 11 true)).bus.checkErrors = 1 := by
  decide +kernel

/-- A frame that awaits its acknowledge slot. -/
def awaiting (o : Option OnLine) (attempts : Nat) (dropped : Bool) : State :=
  onBus (fun b => { b with onLine := o, queue := [waitingFrame attempts true dropped] }) running

theorem witness_AcknowledgeSlot :
    running.inReset = false ∧ running.bus.onLine = none
    ∧ (let b := (onBus (fun b => { b with dominantRun := 23, onLine := some .level }) running).bus.fed [false]
       b.state = .active ∧ b.dominantRun = 24)
    ∧ (let b := (onBus (fun b => { b with state := .fault, recessiveRun := 10, onLine := some .level }) running).bus.fed [true]
       b.state = .fault ∧ b.recessiveRun = 11)
    ∧ (awaiting (some .level) 0 false).bus.onLine = some .level ∧ (awaiting (some .orphan) 0 false).bus.onLine = some .orphan
    ∧ (∀ e ∈ [(0, true), (1, false), (2, false)],
        (awaiting (some .directed) e.1 e.2).bus.onLine = some .directed
        ∧ (awaiting (some .directed) e.1 e.2).bus.queue = [] ++ waitingFrame e.1 true e.2 :: []
        ∧ (waitingFrame e.1 true e.2).sending = true ∧ (waitingFrame e.1 true e.2).dropped = e.2
        ∧ (waitingFrame e.1 true e.2).attempts = e.1)
    ∧ running.bus.view[(1 : Station)] = some { present := true, level := some 3, free := 10, phase := .run, age := 2 } := by
  decide

/-- The line of a frame of station 1 to station 0, and of station 1's LEVEL frame. -/
def grantLine (dest src : Station) : List Bit := (({ dest := dest, body := .grant 9 1023 } : Directed).raw src).line
def levelLine (src : Station) : List Bit := (({ level := none, free := 48, phase := .run } : LevelFrame).raw src).line

/-- `grantLine 0 1` as a raw frame; and a frame of a payload of n bytes. -/
def grantRaw : RawFrame := ({ dest := 0, body := .grant 9 1023 } : Directed).raw 1
def longRaw (n : Nat) : RawFrame := { urgency := 1, source := 1, dest := 0, kind := 1, payload := List.replicate n 0 }

theorem witness_FrameReceived :
    running.inReset = false ∧ (running.hear [true]).bus.reception = []
    ∧ (onBus (fun b => { b with recessiveRun := 10 }) running |>.hear (grantLine 0 1)).bus.reception = []
    ∧ (running.hear (grantLine 0 1)).bus.reception = grantLine 0 1
    ∧ ((running.hear ((grantLine 0 1).take 20)).hear ((grantLine 0 1).drop 20)).bus.reception = grantLine 0 1
    ∧ receive ((grantLine 0 1).take 20) = .failed
    ∧ receive (grantLine 0 1) = .good 1 (some (.directed { dest := 0, body := .grant 9 1023 }))
    ∧ receive (grantLine 1 0) = .good 0 (some (.directed { dest := 1, body := .grant 9 1023 }))
    ∧ receive (grantLine 0 2) = .good 2 (some (.directed { dest := 0, body := .grant 9 1023 }))
    ∧ receive (levelLine 1) = .good 1 (some (.level { level := none, free := 48, phase := .run }))
    ∧ receive (RawFrame.line { urgency := 0, source := 1, dest := 0, kind := 9, payload := [] }) = .good 1 none
    ∧ running.station = 0 ∧ running.ring = 2 ∧ running.bus.state = .active ∧ State.reset.bus.state = .silent
    ∧ (sendQueue 0 .mute).bus.state = .mute ∧ (sendQueue 0 .fault).bus.state = .fault
    ∧ (running.bus.view[(1 : Station)]).isSome = true := by decide +kernel

theorem witness_FrameReceived_check :
    grantRaw.payload.length ≤ 20 ∧ (0 : BitVec 16) ≠ check grantRaw.covered
    ∧ (∃ pre post, pre ++ List.replicate 5 false ++ true :: post = (longRaw 1).line ∧ post ≠ [])
    ∧ 0 < grantRaw.compared.length ∧ 20 + 11 < grantRaw.bits.length ∧ neverIdle 0 grantRaw.line = true
    ∧ (longRaw 20).payload.length ≤ 20 ∧ 20 < (longRaw 21).payload.length ∧ (longRaw 31).payload.length ≤ 31
    ∧ receive (longRaw 21).line = .failed
    ∧ (longRaw 4).content.isSome = true ∧ (longRaw 5).content.isSome = false ∧ grantRaw.content.isSome = true
    ∧ ({ grantRaw with urgency := 1 } : RawFrame).content = none
    ∧ ({ grantRaw with payload := [9, 4, 0] } : RawFrame).content = none
    ∧ ({ grantRaw with kind := 5, urgency := 2, payload := [4, 48, 2] } : RawFrame).content.isSome = true
    ∧ ({ grantRaw with kind := 5, urgency := 2, payload := [5, 48, 2] } : RawFrame).content = none
    ∧ ({ grantRaw with kind := 3, urgency := 0, payload := [] } : RawFrame).content = none
    ∧ ({ grantRaw with kind := 0 } : RawFrame).content = none ∧ ({ grantRaw with kind := 6 } : RawFrame).content = none := by
  refine ⟨by decide, by decide +kernel, ⟨(longRaw 1).line.take 6, (longRaw 1).line.drop 12, by decide +kernel⟩, ?_⟩
  decide +kernel

theorem witness_LineStuckAndRecovered :
    running.inReset = false
    ∧ (∀ n ∈ [0, 5, 22, 23, 24],
        let u := running.hear (List.replicate n false)
        let b := u.bus.fed [false]
        b.dominantRun = min 24 (n + 1) ∧ ((u.bus.reception = []) ↔ n = 0 ∨ 6 ≤ n))
    ∧ (let v : State := { running with bus := { running.bus.fed (List.replicate 6 false) with
        reception := List.replicate 6 false } }
       ∃ w, exec (.busFrameReceived []) v = .next w)
    ∧ ((sendQueue 0 .fault).hear (false :: List.replicate 10 true)).bus.state = .fault
    ∧ ((sendQueue 0 .fault).hear (false :: List.replicate 11 true)).bus.state = .active := by
  refine ⟨by decide, by decide +kernel, ⟨_, rfl⟩, by decide +kernel, by decide +kernel⟩

theorem witness_AnnounceExpiry :
    running.inReset = false ∧ running.bus.announce ≠ some 0
    ∧ (onBus (fun b => { b with announce := some 0 }) running).bus.announce = some 0 := by decide

theorem witness_FrameRoundTrip :
    ({ dest := 0, body := .grant 9 1023 } : Directed).within = true ∧ neverIdle 0 (grantLine 0 1) = true
    ∧ ({ dest := 0, body := .offer { offerOf 1 255 with digits := List.replicate 24 9 } } : Directed).within = true
    ∧ neverIdle 0 ((({ dest := 0, body := .offer { offerOf 1 255 with digits := List.replicate 24 9 } } : Directed).raw 1).line)
        = true
    ∧ ({ level := none, free := 48, phase := .run } : LevelFrame).within = true ∧ neverIdle 0 (levelLine 1) = true := by
  decide +kernel

theorem witness_DigitListRoundTrip :
    (List.replicate 24 (9 : Digit)).length ≤ 24 ∧ readDigits [3, 0x12, 0x3F] = some [1, 2, 3] ∧ readDigits [0] = some []
    ∧ 2 * 0 + 1 < [1, 2, (3 : Digit)].length ∧ 2 * 1 + 1 = [1, 2, (3 : Digit)].length
    ∧ 2 * 11 + 1 < (List.replicate 24 (9 : Digit)).length := by
  decide

theorem witness_DecoderRefuses :
    readTransaction [4, 0, 7] = .go [] ∧ readTransaction [4, 1] = .orderDiscarded [4, 1]
    ∧ readTransaction [0, 1, 7] = .unknownOrder 0 [7] ∧ readTransaction [24, 0] = .unknownOrder 24 []
    ∧ running.inReset = false ∧ [(4 : Byte)].length ≤ 1 ∧ ([] : List Byte).length ≤ 1
    ∧ ([(4 : Byte), 1] = 4 :: 1 :: []) ∧ ([] : List Byte).length < (1 : Byte).toNat
    ∧ (24 ≤ (24 : Byte).toNat)
    ∧ lengthFits (.go [0]) = some false ∧ lengthFits (.hunt [0, 7, 1, 1, 1]) = some false
    ∧ lengthFits (.hunt [0, 7, 1, 1, 1, 0]) = some true ∧ takenIn .config (.hunt [0, 7, 1, 1, 1, 0]) = false
    ∧ lengthFits (.respond [0, 5, 0, 11, 0]) = some true ∧ takenIn .run (.respond [0, 5, 0, 11, 0]) = true
    ∧ fieldsFit (.respond [0, 5, 0, 11, 0]) = false ∧ fieldsFit (.respond [0, 5, 0, 10, 24]) = true
    ∧ namesCircuit (.respond [0, 48, 0, 10, 24]) = some [0, 48, 0, 10, 24] ∧ running.locate (wordAt [0, 48, 0, 10, 24] 0) = none
    ∧ running.locate (wordAt [0, 47, 1, 10, 24] 0) = some 47 ∧ byteAt [0, 47, 1, 10, 24] 2 ≠ 0
    ∧ byteAt [0, 47, 1, 10, 24] 2 ≠ (running.circuit 47).phase.code
    ∧ [(0 : Byte), 7, 1, 1].length = 4 ∧ [(0 : Byte), 5, 0].length = 3 := by decide

/-- R181, log entry 11: the complete flag 3 of HUNT reads as set, 2 as clear. -/
theorem test_flag_byte_by_bit_0 :
    [3, 2].map (fun b : Byte => (after (.hunt [0, 7, 1, 1, b, 1, 0x4F]) running).hunt.queue.map Request.complete) =
      [[true], [false]] := by decide +kernel

/-- R112, row 1: CANCEL after the circuit took the seize command ends the slot HUNT-CANCELLED; the PROCEED that follows is
answered in OUT-RELEASING (log entry 37). -/
theorem test_cancel_after_taken :
    let s := seized .taken false
    status (.cancel [0, 7]) s = some .done ∧ line (.cancel [0, 7]) s = (.outReleasing, 0)
    ∧ told (.cancel [0, 7]) s = [(.huntCancelled, 1, 0)]
    ∧ (after (.sample 5) (hears 1 (after (.cancel [0, 7]) s))).reports.queue.map Report.kind =
        [.huntCancelled, .unexpectedCode] := by
  decide +kernel

/-- R111: a marked command that is taken is finished in the same event (log entry 37). -/
theorem test_marked_seize_command :
    let s := dispatched (request (.ofHost 2 7) false) .inFlight (slot2 .waiting true running)
    line .seizeCommand s = (.outReleasing, 0) ∧ told .seizeCommand s = [(.huntCancelled, 1, 0)]
    ∧ (after .seizeCommand s).hunt.dispatch = none := by decide +kernel

theorem witness_ConfigurationOrders :
    State.reset.inReset = false ∧ State.reset.partPhase = .config
    ∧ (3 :: List.replicate 24 (0 : Byte)).length = 25 ∧ byteAt (3 :: List.replicate 24 (0 : Byte)) 0 = (3 : Fin 4).val
    ∧ byteAt (3 :: List.replicate 24 (0 : Byte)) 23 = LossPolicy.hold.code
    ∧ (9 :: 2 :: 1 :: List.replicate 8 (0 : Byte)).length = 11
    ∧ byteAt (9 :: 2 :: 1 :: List.replicate 8 (0 : Byte)) 1 = Method.rotating.code
    ∧ byteAt (9 :: 2 :: 1 :: List.replicate 8 (0 : Byte)) 2 = Parity.odd.code
    ∧ [(2 : Byte), 3, 255, 0, 0, 3].length = 6 ∧ byteAt [2, 3, 255, 0, 0, 3] 0 = (2 : SpanIx).val
    ∧ byteAt [2, 3, 255, 0, 0, 3] 5 = (3 : Fin 4).val ∧ wordAt [2, 3, 255, 0, 0, 3] 1 ≤ 1023
    ∧ (∃ sp, ((after (.setSpan [2, 3, 255, 0, 0, 3]) State.reset).spanSettings sp).base % 16 ≠ 0) := by decide +kernel

theorem witness_GoAndRestart :
    State.reset.inReset = false ∧ State.reset.partPhase = .config ∧ State.reset.station.val < State.reset.ring
    ∧ (∀ sp, (State.reset.spanSettings sp).base % 16 = 0)
    ∧ (∀ a b, (State.reset.spanSettings a).base = (State.reset.spanSettings b).base → a = b)
    ∧ (∃ sp, (State.reset.spanSettings sp).equipped ≠ 0)
    ∧ ¬ ((State.reset.setStation 1).station.val < (State.reset.setStation 1).ring)
    ∧ ¬ (∀ sp, ((after (.setSpan [2, 3, 255, 0, 0, 3]) State.reset).spanSettings sp).base % 16 = 0)
    ∧ ((after (.setSpan [2, 0, 0, 0, 0, 3]) State.reset).spanSettings 2).base =
        ((after (.setSpan [2, 0, 0, 0, 0, 3]) State.reset).spanSettings 0).base
    ∧ (∀ sp, ((State.reset.setSettings { State.reset.settings with spans := Vector.ofFn fun i : SpanIx =>
        { base := 16 * i.val, equipped := 0, profile := 0 } }).spanSettings sp).equipped = 0)
    ∧ running.inReset = false ∧ running.partPhase ≠ .config := by decide +kernel

/-- A record with every optional register field. -/
def fullRecord : Circuit :=
  { idleCircuit with call := { hostCall with
      send := { hostCall.send with request := some 6 }
      buffer := { ReceiveBuffer.reset with category := some 3, lastResponse := some 5 }
      answerStamp := some 0xFFFFFFFF } }

theorem witness_ReadOrders :
    running.inReset = false ∧ running.partPhase ≠ .config ∧ five.length = 3 ∧ running.Names five 5
    ∧ running.Names [0, 47, 2] 47
    ∧ (let s := after (.readView []) running
       (∃ r, s.port.reply = some r ∧ r.body.bytes.length = 5) ∧ s.port.replyStands = true
       ∧ (List.range 8).map s.dataOut = [0, 5, 1, 5, 3, 10, 2, 255])
    ∧ State.reset.port.reply = none ∧ (after (.orderDiscarded [4]) running).port.replyStands = false
    ∧ running.sendPortion[(5 : Slot)] = 0
    ∧ (fullRecord.call.send.request = some 6 ∧ fullRecord.call.buffer.category = some 3
      ∧ fullRecord.call.buffer.lastResponse = some 5 ∧ fullRecord.call.answerStamp = some 0xFFFFFFFF) := by
  refine ⟨by decide, by decide, by decide, by decide, by decide, ⟨⟨_, rfl, by decide⟩, by decide, by decide +kernel⟩, ?_⟩
  decide +kernel

/-- The reports of FETCH-REPORT's clauses: n others behind the first, a marked circuit. -/
def fetching (r : Report) (n : Nat) (marked : Bool) : State :=
  (slot2 .ended false running).setReports
    { queue := r :: List.replicate n (running.report .lockout), resync := if marked then 1 else 0, viewChanged := false }

/-- n reports of a circuit wait. -/
def waitingReports (n : Nat) : State := reporting (List.replicate n (running.report .lockout)) running

/-- R169: the 40th report joins, the 41st marks its circuit, a bus event marks the view, a hunt outcome still joins. -/
theorem test_post : ((waitingReports 39).post (some 5) (running.report .answer)).reports.queue.length = 40
    ∧ ((waitingReports 40).post (some 5) (running.report .answer)).reports =
        { queue := List.replicate 40 (running.report .lockout), resync := 32, viewChanged := false }
    ∧ ((waitingReports 40).post none (running.report .stationAbsent)).reports.viewChanged = true
    ∧ ((waitingReports 40).post none (running.report .huntFailed)).reports.queue.length = 41
    ∧ (waitingReports 1).attention = true ∧ (waitingReports 0).attention = false := by decide +kernel

/-- R170: a span's report and the bus's rewrite the one that waits, in its place. -/
theorem test_post_rewrites :
    let ofSpan (k : ReportKind) (sp : SpanIx) : Report := { running.report k with span := some sp }
    let s := reporting [ofSpan .spanFailed 1, ofSpan .spanFailed 0, running.report .busStuck, running.report .lockout] running
    (s.post none (ofSpan .spanRestored 0)).reports.queue =
      [ofSpan .spanFailed 1, ofSpan .spanRestored 0, running.report .busStuck, running.report .lockout]
    ∧ (s.post none (running.report .busRecovered)).reports.queue =
      [ofSpan .spanFailed 1, ofSpan .spanFailed 0, running.report .busRecovered, running.report .lockout]
    ∧ (s.post none (ofSpan .spanQuiesced 2)).reports.queue.length = 5 := by decide +kernel

theorem witness_FetchReport :
    (waitingReports 39).reports.queue.length < 40 ∧ 40 ≤ (waitingReports 40).reports.queue.length ∧
    running.inReset = false ∧ running.reports.queue = []
    ∧ (fetching (running.report .lockout) 0 false).reports.queue = running.report .lockout :: []
    ∧ (running.report .lockout).kind.ofHunt = false
    ∧ ({ running.report .huntCancelled with reference := some 7 } : Report).kind.ofHunt = true
    ∧ ((fetching (running.report .lockout) 0 false).huntSlot 2).state = .ended
    ∧ ((fetching (running.report .lockout) 0 false).huntSlot 2).reference = some 7
    ∧ (∀ j, j < 2 → ¬ (((fetching (running.report .lockout) 0 false).huntSlot j).state = .ended
        ∧ ((fetching (running.report .lockout) 0 false).huntSlot j).reference = some 7))
    ∧ (∀ ix, (running.huntSlot ix).state = .ended → (running.huntSlot ix).reference ≠ some 7)
    ∧ (fetching (running.report .lockout) 32 true).reports.queue =
        running.report .lockout :: List.replicate 32 (running.report .lockout)
    ∧ (fetching (running.report .lockout) 32 true).reports.resync ≠ 0
    ∧ 32 < (List.replicate 33 (running.report .lockout)).length
    ∧ (fetching (running.report .lockout) 32 false).reports.resync = 0 := by decide +kernel

/-- A call whose number is not complete, with n digits. -/
def dialling (p : Phase) (t : Option RegStep) (n : Nat) : State :=
  let c := outRegister .digitWait none
  on { c with
    phase := p
    call := { c.call with
      step := t
      send := { SendQueue.reset with digits := List.replicate n 4, pointer := 1, last := .digit 0 } } }

theorem witness_AddDigits :
    (∀ e ∈ [(Phase.outRegister, some RegStep.digitWait, 1), (.outRegister, some .signalOff, 24), (.outSeizing, none, 23)],
      (dialling e.1 e.2.1 e.2.2).inReset = false ∧ (dialling e.1 e.2.1 e.2.2).partPhase = .run
      ∧ (dialling e.1 e.2.1 e.2.2).Names (namedBytes 5 0 ++ byteOf 1 ++ digitList [4]) 5
      ∧ ((dialling e.1 e.2.1 e.2.2).circuit 5).phase = e.1
      ∧ ((dialling e.1 e.2.1 e.2.2).circuit 5).call.step = e.2.1
      ∧ ((dialling e.1 e.2.1 e.2.2).circuit 5).call.send.complete = false
      ∧ ((dialling e.1 e.2.1 e.2.2).circuit 5).call.send.digits.length = e.2.2
      ∧ ((dialling e.1 e.2.1 e.2.2).circuit 5).sendCode =
          (dialling e.1 e.2.1 e.2.2).sendingCode 5 ((dialling e.1 e.2.1 e.2.2).circuit 5)
      ∧ ((dialling e.1 e.2.1 e.2.2).circuit 5).call.send.last = .digit 0 ∧ 0 < e.2.2)
    ∧ ((on seizing).circuit 5).call.send.complete = true
    ∧ (running.circuit 5).phase ≠ .outSeizing ∧ (running.circuit 5).phase ≠ .outRegister := by decide

/-- HOST-WAIT with an accepted code and a last response. -/
def hostWait (a : Code) (last : Option Code) : State :=
  on (holding a (incoming .inRegister (some .hostWait) { full 3 2 with lastResponse := last }))

theorem witness_RespondOrder :
    (∀ e ∈ [((1 : Code), (none : Option Code)), (11, none), (4, some 5), (10, some 2), (0, none), (12, none)],
      (hostWait e.1 e.2).inReset = false ∧ (hostWait e.1 e.2).partPhase = .run
      ∧ ((hostWait e.1 e.2).circuit 5).phase = .inRegister ∧ ((hostWait e.1 e.2).circuit 5).call.step = some .hostWait
      ∧ ((hostWait e.1 e.2).circuit 5).recog.accepted = e.1
      ∧ ((hostWait e.1 e.2).circuit 5).call.buffer.lastResponse = e.2
      ∧ (hostWait e.1 e.2).Names (namedBytes 5 9 ++ byteOf 2 ++ byteOf 255) 5
      ∧ (hostWait e.1 e.2).Names (namedBytes 5 9 ++ byteOf 4 ++ byteOf 255) 5
      ∧ (hostWait e.1 e.2).Names (namedBytes 5 9 ++ byteOf 10 ++ byteOf 255) 5
      ∧ (hostWait e.1 e.2).Names (namedBytes 5 0 ++ byteOf 3 ++ byteOf 24) 5)
    ∧ ¬ ((running.circuit 5).phase = .inRegister ∧ (running.circuit 5).call.step = some .hostWait)
    ∧ running.Names (namedBytes 5 0 ++ byteOf 3 ++ byteOf 24) 5 := by decide +kernel

/-- RESPONDING with COMPLETE-CHARGE on the line, and the answer pended or not. -/
def completing (pending : Bool) : State :=
  let c := incoming .inRegister (some .responding) (answered 6)
  on { c with sendCode := 6, call := { c.call with answerPending := pending } }

theorem witness_AnswerAndClearBackOrders :
    (∀ p ∈ [Phase.inAwaitAnswer, .inClearedBack, .inAnswered],
      (on (incoming p none (answered 6))).inReset = false ∧ (on (incoming p none (answered 6))).partPhase = .run
      ∧ (on (incoming p none (answered 6))).Names five 5 ∧ ((on (incoming p none (answered 6))).circuit 5).phase = p)
    ∧ (∀ b : Bool, (completing b).inReset = false ∧ (completing b).Names five 5
      ∧ ((completing b).circuit 5).phase = .inRegister ∧ ((completing b).circuit 5).call.step = some .responding
      ∧ ((completing b).circuit 5).call.buffer.lastResponse = some 6
      ∧ ((completing b).circuit 5).sendCode = (completing b).sendingCode 5 ((completing b).circuit 5)
      ∧ ((completing b).circuit 5).call.answerPending = b)
    ∧ five.length = 3 ∧ running.Names five 5 ∧ (running.circuit 5).phase = .idle := by decide

theorem witness_ClearForwardAndResetOrders :
    (on seizing).inReset = false ∧ (on seizing).partPhase = .run ∧ five.length = 3 ∧ (on seizing).Names five 5
    ∧ ((on seizing).circuit 5).phase.isOut = true ∧ ((on seizing).circuit 5).phase ≠ .outReleasing
    ∧ (on (releasing 11)).Names five 5 ∧ ((on (releasing 11)).circuit 5).phase = .outReleasing
    ∧ (running.circuit 5).phase.isOut = false ∧ (running.circuit 5).phase ≠ .unequipped
    ∧ (running.circuit 5).phase ≠ .restarting
    ∧ ((on { idleCircuit with phase := .restarting, sendCode := 14 }).circuit 5).phase = .restarting
    ∧ (on { idleCircuit with phase := .restarting, sendCode := 14 }).Names five 5 := by decide

/-- An IDLE circuit blocked by the host, with a standing 12. -/
def standing : Circuit := holding 12 { idleCircuit with hostBlock := true, sendCode := 14 }

theorem witness_BlockAndUnblock :
    running.inReset = false ∧ running.partPhase = .run ∧ running.Names five 5 ∧ (running.circuit 5).phase = .idle
    ∧ (on seizing).Names five 5 ∧ ((on seizing).circuit 5).phase ≠ .idle
    ∧ ((on seizing).circuit 5).sendCode = (on seizing).sendingCode 5 ((on seizing).circuit 5)
    ∧ (on standing).Names five 5 ∧ ((on standing).circuit 5).phase = .idle ∧ ((on standing).circuit 5).hostBlock = true
    ∧ ((on standing).circuit 5).quiesceBlock = false ∧ ((on standing).circuit 5).recog.accepted = 12
    ∧ (on standing).failed (spanOf 5) = false
    ∧ (onSpan failedSpan (on standing)).Names five 5 ∧ (onSpan failedSpan (on standing)).failed (spanOf 5) = true := by decide

/-! ### The invariants hold in a state that steps -/

/-- Reset, with GO at the front of the queue. -/
def starting : State := State.reset.setPending [.go []]

theorem witness_FreeCountHolds : starting.Counted ∧ step starting = .next (after (.go []) State.reset) := by
  refine ⟨?_, rfl⟩
  unfold State.Counted State.ConfigBare
  decide +kernel

theorem witness_CircuitRecordsShaped : starting.Shaped := by
  unfold State.Shaped
  decide

theorem witness_SendingTableKept : starting.SendsByTable := by
  unfold State.SendsByTable State.ConfigBare
  decide +kernel

theorem witness_RestartingCountHolds : starting.RestartCounted := by
  unfold State.RestartCounted
  decide +kernel

theorem witness_ListsStayBounded : starting.DigitsWithin ∧ starting.ListsWithin := by
  refine ⟨⟨by decide, by decide, (fun _ h => by cases h), by decide, by decide, by decide, by decide, by decide, by decide,
    (fun _ h => by cases h), by decide⟩, ?_⟩
  · unfold State.ListsWithin
    decide

theorem witness_RangesStayKept : starting.RangesKept := by
  refine ⟨?_, by unfold State.HighwayWithin; decide, ⟨by decide, by decide⟩, by unfold State.SpansWithin; decide,
    fun st => ?_, ?_⟩
  · unfold State.ConfigBare
    decide
  · rw [show starting.bus.view[st] = none from by revert st; decide]
    exact .inl rfl
  · unfold State.BusWithin
    decide

theorem witness_OneOutcomePerSlot : starting.SlotsAccounted := by
  refine ⟨?_, ?_, ?_, ?_, ?_, fun _ _ _ h => by cases h⟩ <;> decide +kernel

theorem witness_ReportQueueBounded : starting.SlotsAccounted ∧ starting.RestartCounted ∧ starting.ReportsCounted := by
  refine ⟨witness_OneOutcomePerSlot, witness_RestartingCountHolds, ?_⟩
  unfold State.ReportsCounted
  decide

end Sys2Proof.Tests
end

/-! Recognising received codes (chapter 2): what one sample does to its recognizer, and what an accepted code does at
a circuit whose phase and step give it no entry. -/

namespace Sys2Proof.ReceivedCodes

open Sys2Proof Sys2Proof.Machine

variable (s : State) (slot : Slot) (x : Code)

/-! ### Thresholds (R15, Table 2-1) -/

/-- Candidate 0 waits for IDLE-PERSIST. -/
theorem threshold_zero (p : Profile) (phase : Phase) : threshold p phase 0 = p.idlePersist := by
  simp [threshold]

/-- Candidate 15 waits for ALARM-PERSIST. -/
theorem threshold_alarm (p : Profile) (phase : Phase) : threshold p phase 15 = p.alarmPersist := by
  simp [threshold]

/-- Any other candidate waits for REGISTER-PERSIST in a register phase and for LINE-PERSIST elsewhere. -/
theorem threshold_other (p : Profile) (phase : Phase) (h0 : x ≠ 0) (h15 : x ≠ 15) :
    threshold p phase x = if phase.isRegister then p.registerPersist else p.linePersist := by
  simp [threshold, h0, h15]

/-- The register phases (R57). -/
theorem isRegister_iff (phase : Phase) : phase.isRegister = true ↔ phase = .outRegister ∨ phase = .inRegister := by
  simp [Phase.isRegister]

/-! ### One step of a recognizer (R17, R18) -/

section Recognizer

variable (p : Profile) (phase : Phase) (r : Recognizer)

/-- A sample equal to the accepted code takes the count down by 2, not below 0. -/
theorem next_of_accepted (h : x = r.accepted) : r.next p phase x = ({ r with count := r.count - 2 }, false) := by
  simp [Recognizer.next, h]

/-- The candidate below its threshold takes the count up by 1. -/
theorem next_counts (ha : x ≠ r.accepted) (hc : x = r.candidate) (hn : r.count + 1 < threshold p phase x) :
    r.next p phase x = ({ r with count := r.count + 1 }, false) := by
  subst hc
  simp [Recognizer.next, ha, hn]

/-- The candidate at its threshold is accepted. -/
theorem next_accepts (ha : x ≠ r.accepted) (hc : x = r.candidate) (hn : threshold p phase x ≤ r.count + 1) :
    r.next p phase x = (Recognizer.holding x, true) := by
  subst hc
  simp [Recognizer.next, Recognizer.holding, ha, hn]

/-- Any other code becomes the candidate, counted once. -/
theorem next_of_new (ha : x ≠ r.accepted) (hc : x ≠ r.candidate) :
    r.next p phase x = ({ r with candidate := x, count := 1 }, false) := by
  simp [Recognizer.next, ha, hc]

end Recognizer

/-! ### Taking the next sample (R16 to R19) -/

/-- Taking a sample off its list changes no circuit record. -/
@[simp] theorem circuit_sampleTaken (y : Slot) : (s.sampleTaken slot).circuit y = s.circuit y := by
  simp [State.sampleTaken]

/-- Nor any profile. -/
@[simp] theorem profile_sampleTaken (y : Slot) : (s.sampleTaken slot).profile y = s.profile y := by
  simp [State.sampleTaken]

/-- A sample that is absent or not valid is discarded (R16). -/
theorem takeSample_discarded (code : Option Code) (valid : Bool) (h : code = none ∨ valid = false) :
    s.takeSample slot code valid = s := by
  rcases h with rfl | rfl
  · rfl
  · cases code <;> rfl

/-- A valid sample that completes no acceptance only steps the recognizer. -/
theorem takeSample_steps (r : Recognizer)
    (h : (s.circuit slot).recog.next (s.profile slot) (s.circuit slot).phase x = (r, false)) :
    s.takeSample slot (some x) true = s.writeCircuit slot { s.circuit slot with recog := r } := by
  simp [State.takeSample, h]

/-- A valid sample that completes an acceptance is followed by the change event (R19). -/
theorem takeSample_accepts (r : Recognizer)
    (h : (s.circuit slot).recog.next (s.profile slot) (s.circuit slot).phase x = (r, true)) :
    s.takeSample slot (some x) true =
      ((s.writeCircuit slot { s.circuit slot with recog := r }).codeChanged slot (s.circuit slot).recog.accepted
        r.accepted).settle slot (s.circuit slot) := by
  simp [State.takeSample, h]

variable {s slot x}

/-- SAMPLE takes the slot's next sample. -/
theorem exec_sample {e : SampleEvent} (hr : s.inReset = false) (h : s.NextSample slot e) :
    exec (.sample slot) s = .next ((s.sampleTaken slot).takeSample slot e.code e.valid) := by
  change execSample slot s = _
  rw [execSample, whenReleased_released _ _ hr]
  simp only [h, State.sampleTaken]

/-- SAMPLE where the recognizer's step completes no acceptance. -/
theorem exec_sample_steps {r : Recognizer} (hr : s.inReset = false)
    (hs : s.NextSample slot { slot := slot, code := some x, valid := true })
    (h : (s.circuit slot).recog.next (s.profile slot) (s.circuit slot).phase x = (r, false)) :
    exec (.sample slot) s = .next ((s.sampleTaken slot).writeCircuit slot { s.circuit slot with recog := r }) := by
  rw [exec_sample hr hs, takeSample_steps _ _ _ r (by simpa using h), circuit_sampleTaken]

/-- SAMPLE where it completes the acceptance of a code: the accepted change is handled in the same event, and the event's
notifications end it. -/
theorem exec_sample_accepts (hr : s.inReset = false) (h : s.Accepts slot x) :
    exec (.sample slot) s =
      .next (((s.accepted slot x).codeChanged slot (s.circuit slot).recog.accepted x).settle slot (s.circuit slot)) := by
  obtain ⟨hs, hc, ha, hn⟩ := h
  have hnext := next_accepts x (s.profile slot) (s.circuit slot).phase _ ha.symm hc.symm hn
  rw [exec_sample hr hs, takeSample_accepts _ _ _ (Recognizer.holding x) (by simpa using hnext), circuit_sampleTaken]
  rfl

/-! ### The circuit that has accepted a code -/

/-- The circuit's record holds the code. -/
@[simp] theorem circuit_accepted : (s.accepted slot x).circuit slot = s.heard slot x := by
  simp [State.accepted]

/-- The entries of a circuit do not depend on its recognizer. -/
@[simp] theorem expects_heard (y : Code) : (s.heard slot x).expects y = (s.circuit slot).expects y := rfl

/-- The hunt unit is told nothing of a circuit of which only the recognizer changed (R28). -/
theorem settle_heard (before : State) (h : s.circuit slot = before.heard slot x) :
    s.settle slot (before.circuit slot) = s := by
  apply State.settle_quiet <;> simp [h, State.heard, notifies, entersRest]

/-- Where change events are not handled nothing follows the acceptance (R20). -/
theorem codeChanged_unhandled (prev new : Code)
    (h : (s.circuit slot).phase = .unequipped ∨ (s.circuit slot).phase = .restarting ∨ (s.circuit slot).phase = .lockout) :
    s.codeChanged slot prev new = s := by
  rcases h with h | h | h <;> simp [State.codeChanged, h]

/-! ### Codes with no entry (R52, Table 3-4) -/

/-- What no entry means in OUT-REGISTER: no failure code, no response in SIGNAL-ON, no PROCEED or ANSWER that closes a cycle
in SIGNAL-OFF (R64). -/
theorem no_entry_outRegister (c : Circuit) (hp : c.phase = .outRegister) (h : c.expects x = false) :
    ¬ (x = 8 ∨ x = 9 ∨ x = 10)
      ∧ (c.call.step = some .signalOn → ¬ (2 ≤ x.val ∧ x.val ≤ 7))
      ∧ (c.call.step = some .signalOff → ∀ q, c.call.send.request = some q →
          x ≠ 1 ∧ ¬ (x = 11 ∧ (q = 6 ∨ q = 7))) := by
  simp only [Circuit.expects, hp, Bool.or_eq_false_iff, Bool.and_eq_false_imp, decide_eq_false_iff_not,
    decide_eq_true_eq, Bool.and_eq_true, Bool.or_eq_true] at h
  obtain ⟨⟨⟨⟨⟨h8, h9⟩, h10⟩, hon⟩, hproceed⟩, hanswer⟩ := h
  refine ⟨by simp [h8, h9, h10], fun hs hx => hon ⟨hs, hx.1⟩ hx.2, fun hs q hq => ⟨?_, fun hx => ?_⟩⟩
  · exact hproceed ⟨hs, by simp [hq]⟩
  · exact hanswer ⟨hs, by simpa [hq] using hx.2⟩ hx.1

/-- OUT-REGISTER without an entry. -/
theorem outRegisterCode_unexpected (prev : Code) (hp : (s.circuit slot).phase = .outRegister)
    (h : (s.circuit slot).expects x = false) : s.outRegisterCode slot prev x = s.unexpected slot prev x := by
  obtain ⟨hfail, hon, hoff⟩ := no_entry_outRegister _ hp h
  rcases hs : (s.circuit slot).call.step with _ | step
  · simp [State.outRegisterCode, hfail, hs]
  · cases step with
    | signalOn => simp only [State.outRegisterCode, if_neg hfail, hs, if_neg (hon hs)]
    | signalOff =>
      rcases hq : (s.circuit slot).call.send.request with _ | q
      · simp [State.outRegisterCode, hfail, hs, hq]
      · obtain ⟨hproceed, hanswer⟩ := hoff hs q hq
        simp only [State.outRegisterCode, if_neg hfail, hs, hq, if_neg hproceed, if_neg hanswer]
    | _ => simp [State.outRegisterCode, hfail, hs]

/-- Forward codes end at 12: AWAIT-SIGNAL has no entry above (R73, R76). -/
theorem awaitSignalCode_unexpected (prev : Code) (h : 12 < x.val) :
    s.awaitSignalCode slot prev x = s.unexpected slot prev x := by
  have h4 : ¬ x.val ≤ 4 := by omega
  have h10 : ¬ x.val ≤ 10 := by omega
  have h11 : x ≠ 11 := by rintro rfl; exact absurd h (by decide)
  have h12 : x ≠ 12 := by rintro rfl; exact absurd h (by decide)
  simp [State.awaitSignalCode, h4, h10, h11, h12]

/-- A 12 closes no cycle unless a response 2 to 7 is in force (R80). -/
theorem cycleCloses_unexpected (prev : Code)
    (h : ∀ r, (s.circuit slot).call.buffer.lastResponse = some r → ¬ (2 ≤ r.val ∧ r.val ≤ 7)) :
    s.cycleCloses slot prev = s.unexpected slot prev 12 := by
  rcases hl : (s.circuit slot).call.buffer.lastResponse with _ | r
  · simp [State.cycleCloses, hl]
  · have hr := h r hl
    have hrepeat : ¬ (2 ≤ r.val ∧ r.val ≤ 5) := by omega
    have hcomplete : ¬ (r = 6 ∨ r = 7) := by rintro (rfl | rfl) <;> exact hr (by decide)
    simp only [State.cycleCloses, hl, if_neg hrepeat, if_neg hcomplete]

/-- What no entry means in IN-REGISTER: no clear-forward, no forward code in AWAIT-SIGNAL, no 12 with a response 2 to 7 in
force in RESPONDING (R50, R73, R76, R80). -/
theorem no_entry_inRegister (c : Circuit) (hp : c.phase = .inRegister) (h : c.expects x = false) :
    x ≠ 0 ∧ (c.call.step = some .awaitSignal → 12 < x.val)
      ∧ (c.call.step = some .responding → x = 12 →
          ∀ r, c.call.buffer.lastResponse = some r → ¬ (2 ≤ r.val ∧ r.val ≤ 7)) := by
  simp only [Circuit.expects, hp, Bool.or_eq_false_iff, Bool.and_eq_false_imp, decide_eq_false_iff_not,
    decide_eq_true_eq, Bool.and_eq_true, Nat.not_le] at h
  obtain ⟨⟨h0, hawait⟩, hclose⟩ := h
  refine ⟨h0, hawait, fun hs hx r hl hr => ?_⟩
  simpa [hl, hr] using hclose ⟨hs, hx⟩

/-- IN-REGISTER without an entry. -/
theorem inRegisterCode_unexpected (prev : Code) (hp : (s.circuit slot).phase = .inRegister)
    (h : (s.circuit slot).expects x = false) : s.inRegisterCode slot prev x = s.unexpected slot prev x := by
  obtain ⟨h0, hawait, hclose⟩ := no_entry_inRegister _ hp h
  rcases hs : (s.circuit slot).call.step with _ | step
  · simp [State.inRegisterCode, h0, hs]
  · cases step with
    | awaitSignal => simp [State.inRegisterCode, h0, hs, awaitSignalCode_unexpected prev (hawait hs)]
    | responding =>
      by_cases hx : x = 12
      · subst hx
        simp [State.inRegisterCode, hs, cycleCloses_unexpected prev (hclose hs rfl)]
      · simp [State.inRegisterCode, h0, hs, hx]
    | _ => simp [State.inRegisterCode, h0, hs]

/-- An accepted code with no entry posts UNEXPECTED-CODE. UNEQUIPPED, RESTARTING and LOCKOUT have no such code; a phase without
register steps tests the codes of its entries one by one. -/
theorem codeChanged_unexpected (prev : Code) (h : (s.circuit slot).expects x = false) :
    s.codeChanged slot prev x = s.unexpected slot prev x := by
  cases hp : (s.circuit slot).phase
  case unequipped | restarting | lockout => simp [Circuit.expects, hp] at h
  case outRegister => simpa [State.codeChanged, hp] using outRegisterCode_unexpected prev hp h
  case inRegister => simpa [State.codeChanged, hp] using inRegisterCode_unexpected prev hp h
  all_goals
    simp only [Circuit.expects, hp, Bool.or_eq_false_iff, decide_eq_false_iff_not] at h
    simp [State.codeChanged, State.idleCode, State.outSeizingCode, State.outReleasingCode, hp, h]

/-- The report names the circuit as it stands but for its recognizer. -/
theorem unexpected_accepted (prev : Code) :
    (s.accepted slot x).unexpected slot prev x = (s.accepted slot x).post (some slot)
      { s.says .unexpectedCode slot (s.circuit slot) x.val with detail2 := prev.val } := by
  simp [State.unexpected, State.circuitReport, State.says, State.accepted, State.heard, State.sampleTaken]

/-! ### The statements -/

/-- Settles O6: each clause is one branch of the recognizer's step. -/
theorem sampleStepsRecognizer : Obligations.SampleStepsRecognizer := by
  unfold Obligations.SampleStepsRecognizer
  refine ⟨fun s slot hr => ⟨fun e hs hd => ?_, fun x hs => ⟨fun ha => ?_, fun ha hc hn => ?_, fun ha hc => ?_⟩,
    fun x h hp => ?_⟩, fun s slot phase x => ⟨rfl, ?_, ?_, fun h0 h15 hp => ?_, fun h0 h15 ho hi => ?_⟩⟩
  · rw [exec_sample hr hs, takeSample_discarded _ _ _ _ hd]
  · exact exec_sample_steps hr hs (next_of_accepted _ _ _ _ ha)
  · exact exec_sample_steps hr hs (next_counts _ _ _ _ ha hc hn)
  · exact exec_sample_steps hr hs (next_of_new _ _ _ _ ha hc)
  · rw [exec_sample_accepts hr h, codeChanged_unhandled _ _ (by simpa [State.heard] using hp),
      settle_heard s circuit_accepted]
  · rintro rfl
    exact threshold_zero _ _
  · rintro rfl
    exact threshold_alarm _ _
  · rw [threshold_other _ _ _ h0 h15, if_pos ((isRegister_iff phase).2 hp)]
  · rw [threshold_other _ _ _ h0 h15, if_neg (by simp [isRegister_iff, ho, hi])]

/-- Settles O7: no rule of the circuit's phase and step takes the code, and the report touches no circuit record, so the
event has no notifications. -/
theorem unexpectedCodeIsReported : Obligations.UnexpectedCodeIsReported := by
  intro s slot x hr h he
  have he' : ((s.accepted slot x).circuit slot).expects x = false := by simpa using he
  have hchange := codeChanged_unexpected (s.circuit slot).recog.accepted he'
  rw [exec_sample_accepts hr h, hchange, unexpected_accepted,
    settle_heard (x := x) s (by simp)]

end Sys2Proof.ReceivedCodes

/-! Offers between stations (chapter 8): what the outcome of an OFFER does at its origin and at a station that forwarded it. -/

namespace Sys2Proof.OffersBetweenStations

open Sys2Proof Sys2Proof.Machine

variable {s : State} {delivered : Bool} {st : Station} {o : OfferBody} {rest : List FrameOutcome} {tag : Tag} {e : OfferEntry}

/-! ### The offer table (R130) -/

/-- The state with another entry in the place of the one that holds the tag. -/
def withEntry (s : State) (tag : Tag) (e : OfferEntry) : State :=
  s.setOffers { s.offers with table := s.offers.table.map fun x => if x.tag = tag then e else x }

/-- A live entry is found by the tag it holds, so its update, whose tag is the same, takes its place. -/
theorem updateEntry_of_live {e' : OfferEntry} (hl : s.offers.live tag = some e) (he : e'.tag = e.tag) :
    s.updateEntry e' = withEntry s tag e' := by
  have htag : e.tag = tag := by simpa using List.find?_some hl
  rw [State.updateEntry, withEntry, he, htag]

/-! ### The entry an outcome is for (R135) -/

/-- Freeing an entry whose OFFER has left the send queue touches the offer table alone (R136). -/
theorem freeEntry_of_not_pending (hp : e.pending = false) : s.freeEntry e = s.withoutEntry e := by
  simp [State.freeEntry, State.withoutEntry, State.setOffers, hp]

/-- An outcome for no live entry with delivery pending is discarded. -/
theorem originOutcome_discarded (h : ∀ e, s.offers.live tag = some e → e.pending = false) :
    s.originOutcome delivered tag = s := by
  rcases hl : s.offers.live tag with _ | e
  · simp [State.originOutcome, hl]
  · simp [State.originOutcome, hl, h e hl]

/-- A delivered OFFER clears the flag of its entry. -/
theorem originOutcome_delivered (hl : s.offers.live tag = some e) (hp : e.pending = true) :
    s.originOutcome true tag = withEntry s tag { e with pending := false } := by
  simp [State.originOutcome, hl, hp, updateEntry_of_live hl]

/-- A failed OFFER is sent anew to the next candidate, and its delivery stays pending. -/
theorem originOutcome_rerouted {next : Station} (hl : s.offers.live tag = some e) (hp : e.pending = true)
    (hc : s.candidate s.station (addStation e.visited e.target) e.cls = some next) :
    s.originOutcome false tag =
      let e' := { e with visited := addStation e.visited e.target, target := next }
      (withEntry s tag e').sendFrame (s.offerFrame e') := by
  simp [State.originOutcome, hl, hp, hc, updateEntry_of_live hl]

/-- A failed OFFER without a candidate ends its entry, which has no frame left to drop (R135, R136). -/
theorem originOutcome_undelivered (hl : s.offers.live tag = some e) (hp : e.pending = true)
    (hc : s.candidate s.station (addStation e.visited e.target) e.cls = none) :
    s.originOutcome false tag =
      (s.endSlot e.slot e.reference { s.report .huntCongestion with detail1 := 3 }).withoutEntry
        { e with pending := false } := by
  simp only [State.originOutcome, hl, hp, hc, if_true, Bool.false_eq_true, if_false, State.endEntry]
  rw [freeEntry_of_not_pending rfl]
  rfl

/-! ### The outcome at the front of the list (R135, R139) -/

/-- The unit takes the oldest outcome off the list. -/
theorem takeOutcome_cons (f : State → FrameOutcome → Option State) {out : FrameOutcome}
    (h : s.events.outcomes = out :: rest) :
    s.takeOutcome f = (f (s.setEvents { s.events with outcomes := rest }) out).getD s := by
  simp [State.takeOutcome, h]

/-- ORIGIN_OFFER_OUTCOME takes the outcome of an OFFER of this station. -/
theorem exec_originOfferOutcome (hr : s.inReset = false)
    (h : s.events.outcomes = { delivered := delivered, frame := { dest := st, body := .offer o } } :: rest)
    (ho : o.origin = s.station) :
    exec .originOfferOutcome s =
      .next ((s.setEvents { s.events with outcomes := rest }).originOutcome delivered o.tag) := by
  change execOriginOfferOutcome s = _
  rw [execOriginOfferOutcome, whenReleased_released _ _ hr, takeOutcome_cons _ h]
  simp [ho]

/-- FORWARDED_OFFER_OUTCOME takes the outcome of an OFFER of another station. -/
theorem exec_forwardedOfferOutcome (hr : s.inReset = false)
    (h : s.events.outcomes = { delivered := delivered, frame := { dest := st, body := .offer o } } :: rest)
    (ho : o.origin ≠ s.station) :
    exec .forwardedOfferOutcome s =
      let t := s.setEvents { s.events with outcomes := rest }
      .next (if delivered then t else t.sendOn { o with visited := addStation o.visited st }) := by
  change execForwardedOfferOutcome s = _
  rw [execForwardedOfferOutcome, whenReleased_released _ _ hr, takeOutcome_cons _ h]
  cases delivered <;> simp [ho]

/-- An offer is sent on as one frame: the OFFER to a candidate, or EXHAUSTED to its origin (R138, R139). -/
theorem sendOn_eq (s : State) (o : OfferBody) :
    s.sendOn o = s.sendFrame (match s.candidate o.origin o.visited o.cls with
      | some next => { dest := next, body := .offer o }
      | none => { dest := o.origin, body := .exhausted o.tag }) := by
  rcases hc : s.candidate o.origin o.visited o.cls with _ | next <;> simp [State.sendOn, hc]

/-! ### The statement -/

/-- Settles O35: at the origin each clause is one branch of the entry's handling; a forwarding station keeps nothing of the
offer and acts on the frame alone. -/
theorem offerOutcomes : Obligations.OfferOutcomes := by
  intro s delivered st o rest hr h t
  refine ⟨fun ho => ?_, fun ho => ?_⟩
  · have htaken : exec .originOfferOutcome s = .next (t.originOutcome delivered o.tag) :=
      exec_originOfferOutcome hr h ho
    rw [htaken]
    refine ⟨fun hd => by rw [originOutcome_discarded (s := t) hd], fun e hl hp => ⟨?_, ?_, ?_⟩⟩
    · rintro rfl
      rw [originOutcome_delivered (s := t) hl hp]
      rfl
    · rintro rfl next hc
      rw [originOutcome_rerouted (s := t) hl hp hc]
      rfl
    · rintro rfl hc
      rw [originOutcome_undelivered (s := t) hl hp hc]
      rfl
  · rw [exec_forwardedOfferOutcome hr h ho]
    refine ⟨?_, ?_⟩
    · rintro rfl
      rfl
    · rintro rfl
      exact congrArg Host.Outcome.next (sendOn_eq t _)

end Sys2Proof.OffersBetweenStations

/-! The order port (chapter 10): the bytes of a transaction as their order, and the decoder's checks in the order of R162. -/

namespace Sys2Proof.OrderDecoder

open Sys2Proof Sys2Proof.Machine

variable {s : State} {c : Instr} {f : List Byte} {α : Type}

/-! ### Fields in their ranges (Table 12-1, R181) -/

section Fields

variable (n : Nat) (f : List Byte)

/-- A value read under a check is there when the check holds. -/
theorem isSome_dite_eq_decide {p : Prop} [Decidable p] (x : p → α) :
    (if h : p then some (x h) else none).isSome = decide p := by
  by_cases h : p <;> simp [h]

theorem readNamed_isSome : (readNamed f).isSome = decide (byteAt f 2 ≤ 17) := by
  by_cases h : byteAt f 2 ≤ 17 <;> simp [readNamed, h]

theorem readClass_isSome : (readClass n).isSome = decide (n ≤ 3) := by
  rw [readClass, isSome_dite_eq_decide]
  exact decide_eq_decide.mpr Nat.lt_succ_iff

theorem readCategory_isSome : (readCategory n).isSome = (decide (1 ≤ n) && decide (n ≤ 4)) := by
  rw [readCategory, isSome_dite_eq_decide, Bool.decide_and]

theorem readSpan_isSome : (readSpan n).isSome = decide (n ≤ 2) := by
  rw [readSpan, isSome_dite_eq_decide]
  exact decide_eq_decide.mpr Nat.lt_succ_iff

theorem readIndex_isSome : (readIndex n).isSome = decide (n ≤ 3) := by
  rw [readIndex, isSome_dite_eq_decide]
  exact decide_eq_decide.mpr Nat.lt_succ_iff

theorem readResponse_isSome : (readResponse n).isSome = (decide (2 ≤ n) && decide (n ≤ 10)) := by
  rw [readResponse, isSome_dite_eq_decide, Bool.decide_and]

theorem readExtension_isSome : (readExtension n).isSome = (decide (n ≤ 24) || decide (n = 255)) := by
  by_cases h : n ≤ 24 <;> by_cases h' : n = 255 <;> simp [readExtension, h, h']

theorem readPolicy_isSome : (readPolicy n).isSome = decide (n ≤ 1) := by
  match n with
  | 0 | 1 => rfl
  | _ + 2 => rfl

theorem readMethod_isSome : (readMethod n).isSome = decide (n ≤ 2) := by
  match n with
  | 0 | 1 | 2 => rfl
  | _ + 3 => rfl

theorem readParity_isSome : (readParity n).isSome = decide (n ≤ 1) := by
  match n with
  | 0 | 1 => rfl
  | _ + 2 => rfl

theorem readSelector_isSome : (readSelector n).isSome = decide (n ≤ 7) := by
  match n with
  | 0 | 1 | 2 | 3 | 4 | 5 | 6 | 7 => rfl
  | _ + 8 => rfl

theorem readProfile_isSome : (readProfile f).isSome = fieldsFit (.setProfile f) := by
  rw [fieldsFit, ← readIndex_isSome, ← readPolicy_isSome, readProfile]
  cases readIndex (byteAt f 0) <;> cases readPolicy (byteAt f 23) <;> rfl

theorem readStation_isSome : (readStation f).isSome = fieldsFit (.setStation f) := by
  rw [fieldsFit, ← readMethod_isSome, ← readParity_isSome, readStation]
  cases readMethod (byteAt f 1) <;> cases readParity (byteAt f 2) <;> rfl

theorem readSpanSettings_isSome : (readSpanSettings f).isSome = fieldsFit (.setSpan f) := by
  rw [fieldsFit, ← readSpan_isSome, ← readIndex_isSome, readSpanSettings]
  by_cases h : wordAt f 1 ≤ 1023 <;> cases readSpan (byteAt f 0) <;> cases readIndex (byteAt f 5) <;> simp [h]

theorem readHunt_isSome : (readHunt f).isSome = fieldsFit (.hunt f) := by
  rw [fieldsFit, Bool.and_assoc (decide _) (decide _), ← readClass_isSome, ← readCategory_isSome, readHunt]
  cases readClass (byteAt f 2) <;> cases readCategory (byteAt f 3) <;> cases readDigits (f.drop 5) <;> rfl

theorem readAddDigits_isSome : (readAddDigits f).isSome = fieldsFit (.addDigits f) := by
  rw [fieldsFit, ← readNamed_isSome, readAddDigits]
  cases readNamed f <;> cases readDigits (f.drop 4) <;> rfl

theorem readRespond_isSome : (readRespond f).isSome = fieldsFit (.respond f) := by
  rw [fieldsFit, Bool.and_assoc (decide _) (decide _), ← readNamed_isSome, ← readResponse_isSome,
    ← readExtension_isSome, readRespond]
  cases readNamed f <;> cases readResponse (byteAt f 3) <;> cases readExtension (byteAt f 4) <;> rfl

end Fields

/-! ### The decoder's checks, one at a time (R162) -/

section Checks

variable {lengthOk : Bool} {phaseOk : PartPhase → Bool} {fields : Option α} {rule : α → State}

theorem takeOrder_wrong_length : s.takeOrder false phaseOk fields rule = s.refuse .malformed := rfl

theorem takeOrder_wrong_phase (hp : phaseOk s.partPhase = false) :
    s.takeOrder true phaseOk fields rule = s.refuse .wrongPartPhase := by
  simp [State.takeOrder, hp]

theorem takeOrder_wrong_field (hp : phaseOk s.partPhase = true) (hf : fields.isSome = false) :
    s.takeOrder true phaseOk fields rule = s.refuse .malformed := by
  obtain rfl : fields = none := by simpa using hf
  simp [State.takeOrder, hp]

theorem takeOrder_taken {x : α} (hp : phaseOk s.partPhase = true) :
    s.takeOrder true phaseOk (some x) rule = rule x := by
  simp [State.takeOrder, hp]

variable {n : Named} {slot : Slot} {onCircuit : Slot → State}

theorem takeNamed_noSuchCircuit (h : s.locate n.number = none) :
    s.takeNamed n onCircuit = s.reply .noSuchCircuit (.circuitNumber n.number) := by
  simp [State.takeNamed, h]

theorem takeNamed_stale (h : s.locate n.number = some slot) (h0 : n.expected ≠ 0)
    (hp : n.expected ≠ (s.circuit slot).phase.code) : s.takeNamed n onCircuit = s.replyPhase .stale slot := by
  simp [State.takeNamed, Circuit.meets, h, h0, hp]

end Checks

/-! ### Every listed order goes through the checks (Tables 10-2 and 12-1) -/

/-- What C stands for in the field bytes of an order. -/
def namedOf (f : List Byte) : Named := { number := wordAt f 0, expected := byteAt f 2 }

theorem readNamed_eq_some {n : Named} (h : readNamed f = some n) : n = namedOf f := by
  by_cases hf : byteAt f 2 ≤ 17 <;> simp_all [readNamed, namedOf]

/-- An order is decoded: with the reset input released, the checks of length, part phase and fields stand before its rule, and
an order that names a circuit then meets the checks on that circuit. -/
structure Decoded (c : Instr) (lengthOk : Bool) (fields : Option α) (rule : State → α → State) : Prop where
  fits : fields.isSome = fieldsFit c
  taken : ∀ s, exec c s = whenReleased s fun s => s.takeOrder lengthOk (takenIn · c) fields (rule s)
  named : ∀ f x, namesCircuit c = some f → fields = some x → ∀ s, ∃ r, rule s x = s.takeNamed (namedOf f) r

/-- An order that names no circuit. -/
theorem Decoded.unnamed {lengthOk : Bool} {fields : Option α} {rule : State → α → State} (hn : namesCircuit c = none)
    (hf : fields.isSome = fieldsFit c)
    (ht : ∀ s, exec c s = whenReleased s fun s => s.takeOrder lengthOk (takenIn · c) fields (rule s)) :
    Decoded c lengthOk fields rule where
  fits := hf
  taken := ht
  named f x h := by simp [hn] at h

/-- An order whose only fields are C. -/
theorem Decoded.onlyNamed {rule : State → Slot → State} (hn : namesCircuit c = some f)
    (hf : fieldsFit c = decide (byteAt f 2 ≤ 17))
    (ht : ∀ s, exec c s = whenReleased s fun s => s.takeCircuitOrder (takenIn · c) f (rule s)) :
    Decoded c (decide (f.length = 3)) (readNamed f) (fun s n => s.takeNamed n (rule s)) where
  fits := by rw [hf, readNamed_isSome]
  taken := ht
  named g n hg hx s := by
    obtain rfl : f = g := by simpa [hn] using hg
    exact ⟨rule s, by rw [readNamed_eq_some hx]⟩

theorem readAddDigits_named {x : Named × AddFields} (h : readAddDigits f = some x) : x.1 = namedOf f := by
  unfold readAddDigits at h
  split at h
  next n ds hn _ => cases h; exact readNamed_eq_some hn
  next => cases h

theorem readRespond_named {x : Named × RespondFields} (h : readRespond f = some x) : x.1 = namedOf f := by
  unfold readRespond at h
  split at h
  next n r e hn _ _ => cases h; exact readNamed_eq_some hn
  next => cases h

theorem decoded_addDigits :
    Decoded (.addDigits f) (addLength f.length) (readAddDigits f)
      (fun s x => s.takeNamed x.1 fun slot => s.addDigits slot x.2) where
  fits := readAddDigits_isSome f
  taken _ := rfl
  named g x hg hx s := by
    obtain rfl : f = g := Option.some.inj hg
    exact ⟨_, by rw [readAddDigits_named hx]⟩

theorem decoded_respond :
    Decoded (.respond f) (decide (f.length = 5)) (readRespond f)
      (fun s x => s.takeNamed x.1 fun slot => s.respondOrder slot x.2) where
  fits := readRespond_isSome f
  taken _ := rfl
  named g x hg hx s := by
    obtain rfl : f = g := Option.some.inj hg
    exact ⟨_, by rw [readRespond_named hx]⟩

/-- Table 12-1 order by order: a command whose length Table 12-1 gives is decoded with that length. -/
theorem decoded_of_listed {lengthOk : Bool} (h : lengthFits c = some lengthOk) :
    ∃ (α : Type) (fields : Option α) (rule : State → α → State), Decoded c lengthOk fields rule := by
  cases c with
  | setProfile f => cases h; exact ⟨_, _, _, .unnamed rfl (readProfile_isSome f) fun _ => rfl⟩
  | setStation f => cases h; exact ⟨_, _, _, .unnamed rfl (readStation_isSome f) fun _ => rfl⟩
  | setSpan f => cases h; exact ⟨_, _, _, .unnamed rfl (readSpanSettings_isSome f) fun _ => rfl⟩
  | go f => cases h; exact ⟨_, some (), _, .unnamed rfl rfl fun _ => rfl⟩
  | readConfig f => cases h; exact ⟨_, _, _, .unnamed rfl (readSelector_isSome _) fun _ => rfl⟩
  | readStatus f => cases h; exact ⟨_, some (), _, .unnamed rfl rfl fun _ => rfl⟩
  | readView f => cases h; exact ⟨_, some (), _, .unnamed rfl rfl fun _ => rfl⟩
  | fetchReport f => cases h; exact ⟨_, some (), _, .unnamed rfl rfl fun _ => rfl⟩
  | clearErrors f => cases h; exact ⟨_, some (), _, .unnamed rfl rfl fun _ => rfl⟩
  | restart f => cases h; exact ⟨_, some (), _, .unnamed rfl rfl fun _ => rfl⟩
  | readCircuit f => cases h; exact ⟨_, _, _, .onlyNamed rfl rfl fun _ => rfl⟩
  | hunt f => cases h; exact ⟨_, _, _, .unnamed rfl (readHunt_isSome f) fun _ => rfl⟩
  | cancel f => cases h; exact ⟨_, some (BitVec.ofNat 16 (wordAt f 0)), _, .unnamed rfl rfl fun _ => rfl⟩
  | quiesceSpan f => cases h; exact ⟨_, _, _, .unnamed rfl (readSpan_isSome _) fun _ => rfl⟩
  | resumeSpan f => cases h; exact ⟨_, _, _, .unnamed rfl (readSpan_isSome _) fun _ => rfl⟩
  | addDigits f => cases h; exact ⟨_, _, _, decoded_addDigits⟩
  | respond f => cases h; exact ⟨_, _, _, decoded_respond⟩
  | answer f => cases h; exact ⟨_, _, _, .onlyNamed rfl rfl fun _ => rfl⟩
  | clearBack f => cases h; exact ⟨_, _, _, .onlyNamed rfl rfl fun _ => rfl⟩
  | clearForward f => cases h; exact ⟨_, _, _, .onlyNamed rfl rfl fun _ => rfl⟩
  | block f => cases h; exact ⟨_, _, _, .onlyNamed rfl rfl fun _ => rfl⟩
  | unblock f => cases h; exact ⟨_, _, _, .onlyNamed rfl rfl fun _ => rfl⟩
  | resetCircuit f => cases h; exact ⟨_, _, _, .onlyNamed rfl rfl fun _ => rfl⟩
  | _ => cases h

/-! ### What the decoder refuses (R162, R163) -/

section Refusals

variable (hr : s.inReset = false)

include hr

theorem exec_wrong_length (hl : lengthFits c = some false) : exec c s = .next (s.refuse .malformed) := by
  obtain ⟨_, _, _, hd⟩ := decoded_of_listed hl
  rw [hd.taken, whenReleased_released _ _ hr, takeOrder_wrong_length]

theorem exec_wrong_phase (hl : lengthFits c = some true) (hp : takenIn s.partPhase c = false) :
    exec c s = .next (s.refuse .wrongPartPhase) := by
  obtain ⟨_, _, _, hd⟩ := decoded_of_listed hl
  rw [hd.taken, whenReleased_released _ _ hr, takeOrder_wrong_phase hp]

theorem exec_wrong_field (hl : lengthFits c = some true) (hp : takenIn s.partPhase c = true) (hf : fieldsFit c = false) :
    exec c s = .next (s.refuse .malformed) := by
  obtain ⟨_, _, _, hd⟩ := decoded_of_listed hl
  rw [hd.taken, whenReleased_released _ _ hr, takeOrder_wrong_field hp (hd.fits.trans hf)]

/-- An order that passes these checks and names a circuit meets the checks on that circuit. -/
theorem exec_named (hl : lengthFits c = some true) (hp : takenIn s.partPhase c = true) (hf : fieldsFit c = true)
    (hn : namesCircuit c = some f) : ∃ rule, exec c s = .next (s.takeNamed (namedOf f) rule) := by
  obtain ⟨_, fields, rule, hd⟩ := decoded_of_listed hl
  obtain ⟨x, hx⟩ := Option.isSome_iff_exists.mp (hd.fits.trans hf)
  obtain ⟨onCircuit, hrule⟩ := hd.named f x hn hx s
  exact ⟨onCircuit, by rw [hd.taken, whenReleased_released _ _ hr, hx, takeOrder_taken hp, hrule]⟩

/-- Bytes of a cut order hold no whole order (R160). -/
theorem exec_orderDiscarded {bytes : List Byte} (h : wholeOrder bytes = false) :
    exec (.orderDiscarded bytes) s = .next (s.setPort { s.port with replyStands := false }) := by
  change execOrderDiscarded bytes s = _
  simp [execOrderDiscarded, whenReleased_released _ _ hr, h]

theorem exec_unknownOrder {kind : Byte} (h : listedKind kind = false) :
    exec (.unknownOrder kind f) s = .next (s.refuse .unknownOrder) := by
  change execUnknownOrder kind f s = _
  simp [execUnknownOrder, whenReleased_released _ _ hr, h]

end Refusals

/-! ### Transactions (R160, Table 12-1) -/

theorem wholeOrder_eq_false {bytes : List Byte}
    (h : bytes.length ≤ 1 ∨ ∃ kind len fields, bytes = kind :: len :: fields ∧ fields.length < len.toNat) :
    wholeOrder bytes = false := by
  match bytes, h with
  | [], _ | [_], _ => rfl
  | kind :: len :: fields, .inl h => simp at h
  | _, .inr ⟨kind, len, fields, rfl, h⟩ => simpa [wholeOrder] using h

theorem listedKind_eq_false_iff {kind : Byte} : listedKind kind = false ↔ kind = 0 ∨ 24 ≤ kind.toNat := by
  have hzero : kind = 0 ↔ kind.toNat = 0 := by simp [BitVec.toNat_eq]
  simp only [listedKind, hzero, Bool.and_eq_false_iff, decide_eq_false_iff_not]
  omega

/-- The orders of Table 12-1 in the order of their kinds, 1 first. -/
def tableOrders : List (List Byte → Instr) :=
  [.setProfile, .setStation, .setSpan, .go, .readConfig, .readStatus, .readView, .fetchReport, .clearErrors, .restart,
   .readCircuit, .hunt, .cancel, .quiesceSpan, .resumeSpan, .addDigits, .respond, .answer, .clearBack, .clearForward,
   .block, .unblock, .resetCircuit]

theorem orderOfKind_zero : orderOfKind 0 f = none := rfl

/-- The kinds number the table. -/
theorem orderOfKind_succ (n : Nat) : orderOfKind (n + 1) f = tableOrders[n]?.map (· f) := by
  match n with
  | 0 | 1 | 2 | 3 | 4 | 5 | 6 | 7 | 8 | 9 | 10 | 11 | 12 | 13 | 14 | 15 | 16 | 17 | 18 | 19 | 20 | 21 | 22 => rfl
  | _ + 23 => rfl

theorem tableOrders_length : tableOrders.length = 23 := rfl

theorem orderOfKind_eq_none_iff {kind : Byte} : orderOfKind kind.toNat f = none ↔ listedKind kind = false := by
  simp only [listedKind, Bool.and_eq_false_iff, decide_eq_false_iff_not]
  rcases kind.toNat with _ | n
  · exact iff_of_true orderOfKind_zero (.inl (by omega))
  · rw [orderOfKind_succ, Option.map_eq_none_iff, List.getElem?_eq_none_iff, tableOrders_length]
    omega

theorem wellFormed_of_mem_tableOrders : ∀ order ∈ tableOrders, (order f).wellFormed = fieldsOk f := by
  simp [tableOrders, Instr.wellFormed]

theorem orderCommand_wellFormed (kind : Byte) (hf : fieldsOk f = true) : (orderCommand kind f).wellFormed = true := by
  rcases ho : orderOfKind kind.toNat f with _ | c
  · have hk : listedKind kind = false := orderOfKind_eq_none_iff.mp ho
    rw [orderCommand_unknown _ _ ho]
    simp [Instr.wellFormed, hk, hf]
  · rw [orderCommand_listed _ _ _ ho]
    rcases hk : kind.toNat with _ | n
    · simp [hk, orderOfKind_zero] at ho
    · obtain ⟨order, hget, rfl⟩ : ∃ order, tableOrders[n]? = some order ∧ order f = c := by
        simpa [hk, orderOfKind_succ] using ho
      rw [wellFormed_of_mem_tableOrders _ (List.mem_of_getElem? hget), hf]

/-- Fewer field bytes than the length gives. -/
theorem readTransaction_cut {kind len : Byte} (h : f.length < len.toNat) :
    readTransaction (kind :: len :: f) = .orderDiscarded (kind :: len :: f) := by
  simp [readTransaction, Nat.not_le.mpr h]

/-- What a transaction stands for is a command the port can bring: one length byte counts its fields. -/
theorem readTransaction_wellFormed (bytes : List Byte) : (readTransaction bytes).wellFormed = true := by
  match bytes with
  | [] | [_] => rfl
  | kind :: len :: rest =>
    by_cases h : len.toNat ≤ rest.length
    · have hf : fieldsOk (rest.take len.toNat) = true := by
        have := len.isLt
        simp only [fieldsOk, List.length_take, decide_eq_true_eq]
        omega
      simpa [readTransaction, h] using orderCommand_wellFormed kind hf
    · rw [readTransaction_cut (Nat.lt_of_not_le h)]
      simpa [Instr.wellFormed, wholeOrder] using h

/-! ### The circuit of a number (R162) -/

/-- A span's circuit of a number: the channel is equipped and the number is the base plus it. -/
theorem locateIn_eq_some_iff {n : Nat} {sp : SpanIx} {x : Slot} :
    s.locateIn n sp = some x ↔
      spanOf x = sp ∧ (s.spanSettings sp).equipped.getLsbD (x.val % 16) = true
        ∧ n = (s.spanSettings sp).base + x.val % 16 := by
  have hslot (ch : Channel) : slotOf sp ch = x ↔ spanOf x = sp ∧ x.val % 16 = ch.val := by
    simp only [Fin.ext_iff, slotOf, spanOf]
    omega
  simp only [State.locateIn, Option.dite_none_right_eq_some, Option.ite_none_right_eq_some, Option.some.injEq, hslot]
  constructor
  · rintro ⟨hn, he, hsp, hch⟩
    exact ⟨hsp, hch ▸ he, by omega⟩
  · rintro ⟨hsp, he, rfl⟩
    exact ⟨by omega, by simpa using he, hsp, by simp⟩

theorem locate_eq_some {n : Nat} {x : Slot} (h : s.locate n = some x) :
    (s.spanSettings (spanOf x)).equipped.getLsbD (x.val % 16) = true
      ∧ n = (s.spanSettings (spanOf x)).base + x.val % 16 := by
  obtain ⟨sp, _, hx⟩ := List.exists_of_findSome?_eq_some h
  obtain ⟨rfl, hx⟩ := locateIn_eq_some_iff.mp hx
  exact hx

theorem locate_eq_none {n : Nat} (h : s.locate n = none) (x : Slot) :
    ¬ ((s.spanSettings (spanOf x)).equipped.getLsbD (x.val % 16) = true
      ∧ n = (s.spanSettings (spanOf x)).base + x.val % 16) := by
  intro hx
  have hnone := List.findSome?_eq_none_iff.mp h (spanOf x) (List.mem_finRange _)
  simp [locateIn_eq_some_iff.mpr ⟨rfl, hx⟩] at hnone

/-! ### Flag bytes (R181, log entry 11) -/

variable {head : List Byte} (tail : List Byte) (b : Byte)

theorem readHunt_flag (h : head.length = 4) : readHunt (head ++ b :: tail) = readHunt (head ++ (b &&& 1) :: tail) := by
  match head, h with
  | [_, _, _, _], _ => simp [readHunt, byteAt, wordAt, flagAt]

theorem readAddDigits_flag (h : head.length = 3) :
    readAddDigits (head ++ b :: tail) = readAddDigits (head ++ (b &&& 1) :: tail) := by
  match head, h with
  | [_, _, _], _ => simp [readAddDigits, readNamed, byteAt, wordAt, flagAt]

theorem exec_hunt_flag (s : State) (h : head.length = 4) :
    exec (.hunt (head ++ b :: tail)) s = exec (.hunt (head ++ (b &&& 1) :: tail)) s := by
  change execHunt _ s = execHunt _ s
  simp only [execHunt, readHunt_flag tail b h, List.length_append, List.length_cons]

theorem exec_addDigits_flag (s : State) (h : head.length = 3) :
    exec (.addDigits (head ++ b :: tail)) s = exec (.addDigits (head ++ (b &&& 1) :: tail)) s := by
  change execAddDigits _ s = execAddDigits _ s
  simp only [execAddDigits, readAddDigits_flag tail b h, List.length_append, List.length_cons]

/-! ### The statement -/

/-- Settles O43: every listed order goes through the same chain of checks, and Table 12-1 is a list that the kinds number. -/
theorem decoderRefuses : Obligations.DecoderRefuses := by
  refine ⟨fun s hr => ⟨?_, ?_, ?_, ?_⟩, ?_, fun s n => ⟨?_, ?_⟩, fun s head tail b => ⟨?_, ?_⟩⟩
  · intro bytes h
    exact exec_orderDiscarded hr (wholeOrder_eq_false h)
  · intro kind fields h
    exact exec_unknownOrder hr (listedKind_eq_false_iff.mpr h)
  · intro c hl
    exact exec_wrong_length hr hl
  · intro c hl
    refine ⟨exec_wrong_phase hr hl, exec_wrong_field hr hl, fun hp hf f hn => ?_⟩
    obtain ⟨rule, hexec⟩ := exec_named hr hl hp hf hn
    rw [hexec]
    exact ⟨fun h => congrArg _ (takeNamed_noSuchCircuit h), fun slot h h0 hne => congrArg _ (takeNamed_stale h h0 hne)⟩
  · intro orders kind len fields more
    refine ⟨fun hlen => ⟨fun order hget h0 => ?_, fun hk => ?_⟩, readTransaction_cut, rfl, rfl,
      readTransaction_wellFormed fields⟩
    · have hkind : kind.toNat = kind.toNat - 1 + 1 := by
        have : kind.toNat ≠ 0 := by simpa [BitVec.toNat_eq] using h0
        omega
      have horder : orderOfKind kind.toNat fields = some (order fields) := by
        rw [hkind, orderOfKind_succ, show tableOrders[kind.toNat - 1]? = some order from hget]
        rfl
      rw [readTransaction_whole _ _ _ _ hlen, orderCommand_listed _ _ _ horder]
    · have hnone : orderOfKind kind.toNat fields = none := orderOfKind_eq_none_iff.mpr (listedKind_eq_false_iff.mpr hk)
      rw [readTransaction_whole _ _ _ _ hlen, orderCommand_unknown _ _ hnone]
  · exact fun x => locate_eq_some
  · exact locate_eq_none
  · exact exec_hunt_flag tail b s
  · exact exec_addDigits_flag tail b s

end Sys2Proof.OrderDecoder

/-! Digit lists (12.1, R181): the halves of the packed bytes are the digits and then the pad, and bytes are known by their
halves, so that reading and sending are each other's inverse. -/

namespace Sys2Proof.DigitLists

open Sys2Proof Sys2Proof.Machine

/-! ### The halves of bytes -/

theorem toNat_byte {n : Nat} (h : n < 256) : (BitVec.ofNat 8 n).toNat = n := by
  rw [BitVec.toNat_ofNat, Nat.mod_eq_of_lt h]

@[simp] theorem nibbles_length (bytes : List Byte) : (nibbles bytes).length = 2 * bytes.length := by
  induction bytes with
  | nil => rfl
  | cons b rest ih =>
    simp only [nibbles, List.length_cons, ih]
    omega

theorem nibbles_injective : Function.Injective nibbles := by
  intro bytes
  induction bytes with
  | nil =>
    intro other h
    cases other with
    | nil => rfl
    | cons c more => cases h
  | cons b rest ih =>
    intro other h
    cases other with
    | nil => cases h
    | cons c more =>
      simp only [nibbles, List.cons.injEq] at h
      obtain ⟨hhigh, hlow, hrest⟩ := h
      have hbyte : b = c := BitVec.eq_of_toNat_eq (by omega)
      rw [hbyte, ih hrest]

/-! ### Packed digits -/

/-- The nibble that fills the last byte: one of 15 after an odd count, none after an even one. -/
def padNibbles (n : Nat) : List Nat := List.replicate (n % 2) 15

theorem padNibbles_add_two (n : Nat) : padNibbles (n + 2) = padNibbles n := by
  rw [padNibbles, Nat.add_mod_right, padNibbles]

theorem nibbles_cons_ofNat {high low : Nat} (hhigh : high < 16) (hlow : low < 16) (rest : List Byte) :
    nibbles (BitVec.ofNat 8 (16 * high + low) :: rest) = high :: low :: nibbles rest := by
  have hbyte : (BitVec.ofNat 8 (16 * high + low)).toNat = 16 * high + low := toNat_byte (by omega)
  have hdiv : (16 * high + low) / 16 = high := by omega
  have hmod : (16 * high + low) % 16 = low := by omega
  rw [nibbles, hbyte, hdiv, hmod]

theorem nibbles_packDigits (ds : List Digit) :
    nibbles (packDigits ds) = ds.map Fin.val ++ padNibbles ds.length := by
  induction ds using packDigits.induct with
  | case1 => rfl
  | case2 d =>
    rw [packDigits, nibbles_cons_ofNat (by omega) (by decide)]
    rfl
  | case3 d e rest ih =>
    rw [packDigits, nibbles_cons_ofNat (by omega) (by omega), ih, List.length_cons, List.length_cons, padNibbles_add_two]
    rfl

@[simp] theorem packDigits_length (ds : List Digit) : (packDigits ds).length = packedLength ds.length := by
  induction ds using packDigits.induct with
  | case1 => rfl
  | case2 d => simp only [packDigits, packedLength, List.length_singleton, Nat.reduceAdd, Nat.reduceDiv]
  | case3 d e rest ih =>
    simp only [packDigits, List.length_cons, ih, packedLength]
    omega

theorem packDigits_getElem?_pair (ds : List Digit) {k : Nat} (h : 2 * k + 1 < ds.length) :
    (packDigits ds)[k]? = some (BitVec.ofNat 8 (16 * (ds.getD (2 * k) 0).val + (ds.getD (2 * k + 1) 0).val)) := by
  induction ds using packDigits.induct generalizing k with
  | case1 => cases h
  | case2 d =>
    rw [List.length_singleton] at h
    omega
  | case3 d e rest ih =>
    rw [List.length_cons, List.length_cons] at h
    cases k with
    | zero => rfl
    | succ k => exact ih (by omega)

theorem packDigits_getElem?_padded (ds : List Digit) {k : Nat} (h : 2 * k + 1 = ds.length) :
    (packDigits ds)[k]? = some (BitVec.ofNat 8 (16 * (ds.getD (2 * k) 0).val + 15)) := by
  induction ds using packDigits.induct generalizing k with
  | case1 => cases h
  | case2 d =>
    rw [List.length_singleton] at h
    obtain rfl : k = 0 := by omega
    rfl
  | case3 d e rest ih =>
    rw [List.length_cons, List.length_cons] at h
    cases k with
    | zero => omega
    | succ k => exact ih (by omega)

/-! ### Reading back -/

theorem map_val_map_ofNat {xs : List Nat} (h : ∀ x ∈ xs, x < 10) : (xs.map (Fin.ofNat 10)).map Fin.val = xs := by
  rw [List.map_map, List.map_congr_left (g := id), List.map_id]
  exact fun x hx => Nat.mod_eq_of_lt (h x hx)

theorem map_ofNat_map_val (ds : List Digit) : (ds.map Fin.val).map (Fin.ofNat 10) = ds := by
  rw [List.map_map, List.map_congr_left (g := id), List.map_id]
  exact fun d _ => Fin.ext (Nat.mod_eq_of_lt d.isLt)

/-- The tests of R181 say of the digits read that the halves are theirs and then the pad. -/
theorem readDigits_cons_eq_some_iff {count : Byte} {packed : List Byte} {ds : List Digit} :
    readDigits (count :: packed) = some ds ↔
      count.toNat = ds.length ∧ ds.length ≤ 24 ∧ nibbles packed = ds.map Fin.val ++ padNibbles ds.length := by
  simp only [readDigits, Option.ite_none_right_eq_some, Option.some.injEq, List.all_eq_true, decide_eq_true_eq,
    Config.maxDigits, packedLength]
  constructor
  · rintro ⟨⟨hcount, hlength, hdigits, hpad⟩, hds⟩
    have hread : ds.map Fin.val = (nibbles packed).take count.toNat := by rw [← hds, map_val_map_ofNat hdigits]
    have hn : count.toNat = ds.length := by
      have := congrArg List.length hread
      simp only [List.length_map, List.length_take, nibbles_length] at this
      omega
    have hrest : (nibbles packed).drop count.toNat = padNibbles ds.length := by
      refine List.eq_replicate_iff.mpr ⟨?_, hpad⟩
      simp only [List.length_drop, nibbles_length]
      omega
    exact ⟨hn, hn ▸ hcount, by rw [hread, ← hrest, List.take_append_drop]⟩
  · rintro ⟨hn, hmax, hhalves⟩
    have htake : (nibbles packed).take count.toNat = ds.map Fin.val := by
      rw [hhalves, hn, List.take_left' (List.length_map _)]
    have hdrop : (nibbles packed).drop count.toNat = padNibbles ds.length := by
      rw [hhalves, hn, List.drop_left' (List.length_map _)]
    have hlength : packed.length = (count.toNat + 1) / 2 := by
      have := congrArg List.length hhalves
      simp only [nibbles_length, List.length_append, List.length_map, padNibbles, List.length_replicate] at this
      omega
    rw [htake, hdrop]
    refine ⟨⟨hn ▸ hmax, hlength, List.forall_mem_map.mpr fun d _ => d.isLt, fun _ => List.eq_of_mem_replicate⟩,
      map_ofNat_map_val ds⟩

theorem readDigits_eq_some_iff {bytes : List Byte} {ds : List Digit} :
    readDigits bytes = some ds ↔ bytes = digitList ds ∧ ds.length ≤ 24 := by
  cases bytes with
  | nil => exact ⟨nofun, nofun⟩
  | cons count packed =>
    rw [readDigits_cons_eq_some_iff, ← nibbles_packDigits, nibbles_injective.eq_iff, digitList, List.cons.injEq]
    have hcount (hmax : ds.length ≤ 24) : count.toNat = ds.length ↔ count = BitVec.ofNat 8 ds.length := by
      rw [← BitVec.toNat_inj, toNat_byte (by omega)]
    constructor
    · rintro ⟨hn, hmax, hpacked⟩
      exact ⟨⟨(hcount hmax).mp hn, hpacked⟩, hmax⟩
    · rintro ⟨⟨hn, hpacked⟩, hmax⟩
      exact ⟨(hcount hmax).mpr hn, hmax, hpacked⟩

/-- Settles O42: bytes read as a digit list exactly when they are the one it is sent as, and each packed byte holds its pair. -/
theorem digitListRoundTrip : Obligations.DigitListRoundTrip := by
  refine ⟨fun ds h => readDigits_eq_some_iff.mpr ⟨rfl, h⟩, fun bytes ds => readDigits_eq_some_iff.mp,
    fun ds k => ⟨rfl, ?_, ?_, ?_⟩⟩
  · rw [digitList, List.length_cons, packDigits_length, packedLength, Nat.add_comm]
  · intro h
    rw [digitList, Nat.add_comm 1 k, List.getElem?_cons_succ, packDigits_getElem?_pair ds h]
  · intro h
    rw [digitList, Nat.add_comm 1 k, List.getElem?_cons_succ, packDigits_getElem?_padded ds h]

end Sys2Proof.DigitLists
